-- ==== Sys2Proof/Config.lean ====
section
/-! DEFINITION. Config.lean: the parameters of 00_scope.md R5.

`FIXED_DIST_ORDER` is the one parameter the model takes as an argument of the machine (decision D1);
the sizes are fixed by the document. `OUT_CAP` is unbounded in the model (decision D11, log 16) and
`IN_LEN` is set per launch, so neither appears here. -/

namespace Sys2Proof

/-- The two values of `FIXED_DIST_ORDER` (43_fixed.md R182). -/
inductive BitOrder where
  | lsb
  | msb
  deriving DecidableEq, Repr

/-- What is fixed for the life of a machine (10_state.md R40). -/
structure Config where
  /-- `FIXED_DIST_ORDER`: the bit order of the raw 5-bit distance field of a fixed block. -/
  fixedDistOrder : BitOrder
  deriving DecidableEq, Repr

/-- This hardware: `FIXED_DIST_ORDER = LSB` (00_scope.md R5, 43_fixed.md R182). -/
def Config.thisHardware : Config := ⟨.lsb⟩

/-- MAX_BITS, the largest Huffman code length (R5). -/
abbrev maxBits : Nat := 15

/-- CL_SIZE, the size of the code-length alphabet (R5, R30). -/
abbrev clSize : Nat := 19

/-- LL_SIZE, the size of the literal/length code-length table (R5, R31). -/
abbrev llSize : Nat := 288

/-- D_SIZE_MAX, the largest size of the distance table (R5, R32). -/
abbrev dSize : Nat := 32

end Sys2Proof
end

