-- ==== Sys2Proof/Word.lean ====
section
/-! DEFINITION. Word.lean: the byte and the two-byte word of the hardware.

Every count, index, symbol and code of this hardware is a natural number (00_scope.md R7, decision D9);
only the bytes of `IN` and `OUT` and the two check words of a stored block are held as bits. -/

namespace Sys2Proof

/-- A byte of `IN` or `OUT`: 8 bits (20_memory.md R60). -/
abbrev Byte := BitVec 8

/-- The width of `LEN` and `NLEN` (10_state.md R28). -/
abbrev Word16 := BitVec 16

end Sys2Proof
end

