-- ==== Sys2Proof/Syntax.lean ====
section
/-! DEFINITION. Syntax.lean: the one inductive of instructions, a constructor per row of
spec/opcode_table.json. The formats stand in the order BH, ST, DH, CLL, OP, CL, D, LL (the constructors
that carry operands come first, which Lean's compiler needs of a type this large); within a format the
order is the table's.

A stream element (30_encoding.md, formats BH, ST, DH, CLL, CL, LL, D) carries no operand but the
header's `BFINAL`: its extra bits and field values are read from the stream by its own meaning, because
the order of those reads decides which fault is reported (60_exceptions.md R291). An internal operation
(format OP) carries the operands its rule names. -/

namespace Sys2Proof

/-- Which of the three trees (10_state.md R34) HT.BUILD and HT.DECODE work on. -/
inductive TreeSel where
  | clt
  | llt
  | dt
  deriving DecidableEq, Repr

/-- Which of the two sequences CLSEQ reads: `HLIT` lengths into `LLCL` or `HDIST` lengths into `DCL`
(44_dynamic.md R190, R196). -/
inductive SeqTable where
  | ll
  | d
  deriving DecidableEq, Repr

/-- The elements of the stream and the internal operations (30_encoding.md R110). -/
inductive Instr where
  -- BH: block headers, operand BFINAL (R91)
  | blkStored (bfinal : Bool)
  | blkFixed (bfinal : Bool)
  | blkDynamic (bfinal : Bool)
  | blkReserved (bfinal : Bool)
  -- ST: the stored body (R92)
  | stHdr
  -- DH: the counts of a dynamic header (R94)
  | dhHlit
  | dhHdist
  | dhHclen
  -- CLL: the code lengths of the code-length alphabet (R94, R95)
  | dhClcl
  -- OP: internal operations 0..12 (R110)
  | rbBit
  | rbMsb (n : Nat)
  | rbLsb (n : Nat)
  | rbBytes (n : Nat)
  | rbAlign
  | htBuild (t : TreeSel)
  | htDecode (t : TreeSel)
  | clseq (t : SeqTable)
  | expand
  | copy
  | launch (bytes : List Byte)
  | blkHdr
  | result
  -- CL: code-length symbols 0..18 (R96)
  | clLen0
  | clLen1
  | clLen2
  | clLen3
  | clLen4
  | clLen5
  | clLen6
  | clLen7
  | clLen8
  | clLen9
  | clLen10
  | clLen11
  | clLen12
  | clLen13
  | clLen14
  | clLen15
  | clRep16
  | clZero17
  | clZero18
  -- D: distance codes 0..31 (R99)
  | d0
  | d1
  | d2
  | d3
  | d4
  | d5
  | d6
  | d7
  | d8
  | d9
  | d10
  | d11
  | d12
  | d13
  | d14
  | d15
  | d16
  | d17
  | d18
  | d19
  | d20
  | d21
  | d22
  | d23
  | d24
  | d25
  | d26
  | d27
  | d28
  | d29
  | d30
  | d31
  -- LL: literal/length symbols 0..287 (R97)
  | llLit0
  | llLit1
  | llLit2
  | llLit3
  | llLit4
  | llLit5
  | llLit6
  | llLit7
  | llLit8
  | llLit9
  | llLit10
  | llLit11
  | llLit12
  | llLit13
  | llLit14
  | llLit15
  | llLit16
  | llLit17
  | llLit18
  | llLit19
  | llLit20
  | llLit21
  | llLit22
  | llLit23
  | llLit24
  | llLit25
  | llLit26
  | llLit27
  | llLit28
  | llLit29
  | llLit30
  | llLit31
  | llLit32
  | llLit33
  | llLit34
  | llLit35
  | llLit36
  | llLit37
  | llLit38
  | llLit39
  | llLit40
  | llLit41
  | llLit42
  | llLit43
  | llLit44
  | llLit45
  | llLit46
  | llLit47
  | llLit48
  | llLit49
  | llLit50
  | llLit51
  | llLit52
  | llLit53
  | llLit54
  | llLit55
  | llLit56
  | llLit57
  | llLit58
  | llLit59
  | llLit60
  | llLit61
  | llLit62
  | llLit63
  | llLit64
  | llLit65
  | llLit66
  | llLit67
  | llLit68
  | llLit69
  | llLit70
  | llLit71
  | llLit72
  | llLit73
  | llLit74
  | llLit75
  | llLit76
  | llLit77
  | llLit78
  | llLit79
  | llLit80
  | llLit81
  | llLit82
  | llLit83
  | llLit84
  | llLit85
  | llLit86
  | llLit87
  | llLit88
  | llLit89
  | llLit90
  | llLit91
  | llLit92
  | llLit93
  | llLit94
  | llLit95
  | llLit96
  | llLit97
  | llLit98
  | llLit99
  | llLit100
  | llLit101
  | llLit102
  | llLit103
  | llLit104
  | llLit105
  | llLit106
  | llLit107
  | llLit108
  | llLit109
  | llLit110
  | llLit111
  | llLit112
  | llLit113
  | llLit114
  | llLit115
  | llLit116
  | llLit117
  | llLit118
  | llLit119
  | llLit120
  | llLit121
  | llLit122
  | llLit123
  | llLit124
  | llLit125
  | llLit126
  | llLit127
  | llLit128
  | llLit129
  | llLit130
  | llLit131
  | llLit132
  | llLit133
  | llLit134
  | llLit135
  | llLit136
  | llLit137
  | llLit138
  | llLit139
  | llLit140
  | llLit141
  | llLit142
  | llLit143
  | llLit144
  | llLit145
  | llLit146
  | llLit147
  | llLit148
  | llLit149
  | llLit150
  | llLit151
  | llLit152
  | llLit153
  | llLit154
  | llLit155
  | llLit156
  | llLit157
  | llLit158
  | llLit159
  | llLit160
  | llLit161
  | llLit162
  | llLit163
  | llLit164
  | llLit165
  | llLit166
  | llLit167
  | llLit168
  | llLit169
  | llLit170
  | llLit171
  | llLit172
  | llLit173
  | llLit174
  | llLit175
  | llLit176
  | llLit177
  | llLit178
  | llLit179
  | llLit180
  | llLit181
  | llLit182
  | llLit183
  | llLit184
  | llLit185
  | llLit186
  | llLit187
  | llLit188
  | llLit189
  | llLit190
  | llLit191
  | llLit192
  | llLit193
  | llLit194
  | llLit195
  | llLit196
  | llLit197
  | llLit198
  | llLit199
  | llLit200
  | llLit201
  | llLit202
  | llLit203
  | llLit204
  | llLit205
  | llLit206
  | llLit207
  | llLit208
  | llLit209
  | llLit210
  | llLit211
  | llLit212
  | llLit213
  | llLit214
  | llLit215
  | llLit216
  | llLit217
  | llLit218
  | llLit219
  | llLit220
  | llLit221
  | llLit222
  | llLit223
  | llLit224
  | llLit225
  | llLit226
  | llLit227
  | llLit228
  | llLit229
  | llLit230
  | llLit231
  | llLit232
  | llLit233
  | llLit234
  | llLit235
  | llLit236
  | llLit237
  | llLit238
  | llLit239
  | llLit240
  | llLit241
  | llLit242
  | llLit243
  | llLit244
  | llLit245
  | llLit246
  | llLit247
  | llLit248
  | llLit249
  | llLit250
  | llLit251
  | llLit252
  | llLit253
  | llLit254
  | llLit255
  | llEob
  | llLen257
  | llLen258
  | llLen259
  | llLen260
  | llLen261
  | llLen262
  | llLen263
  | llLen264
  | llLen265
  | llLen266
  | llLen267
  | llLen268
  | llLen269
  | llLen270
  | llLen271
  | llLen272
  | llLen273
  | llLen274
  | llLen275
  | llLen276
  | llLen277
  | llLen278
  | llLen279
  | llLen280
  | llLen281
  | llLen282
  | llLen283
  | llLen284
  | llLen285
  | llInvalid286
  | llInvalid287
  deriving DecidableEq, Repr

end Sys2Proof
end

