-- ==== Sys2Proof/Machine/State.lean ====
section
/-! DEFINITION. Machine/State.lean: everything the spec gives the machine, as plain data.

10_state.md R20 lists the state; each field's docstring names its rule. The last fields, marked as the
model's own, hold where the pseudocode stands between two stream elements and what passes between the
machine and its host (log 5, 7, 8, 9). -/

namespace Sys2Proof.Machine

/-- A byte space as address and byte pairs, addresses strictly rising, no pair with the byte an unlisted
address reads as (log 4). Which addresses exist is said by the space's length (`IN_LEN`, `OUT_LEN`). -/
abbrev Memory := List Host.Cell

/-- A tree node with three optional parts, or no node (10_state.md R33): `none` is the spec's "none". -/
inductive Tree where
  | none
  | node (left right : Tree) (sym : Option Nat)
  deriving DecidableEq, Repr

/-- The states of the decode loop (10_state.md R24). -/
inductive Fsm where
  | readingHeader
  | dispatching
  | done
  | fault
  deriving DecidableEq, Repr

/-- The values of `ERR` (60_exceptions.md R281). -/
inductive Cause where
  | none
  | streamTruncated
  | reservedBlockType
  | storedBlockLengthMismatch
  | invalidSymbol
  | malformedHuffmanTable
  | codeLengthRepeatWithoutPrevious
  | codeLengthRunOverflow
  | distanceTooFar
  deriving DecidableEq, Repr

/-- The model's own: the next element the running block decoder's pseudocode reads (log 5). -/
inductive Phase where
  /-- No block decoder is running: `FSM` says what comes next. -/
  | idle
  /-- BLK.STORED: the stored body. -/
  | storedBody
  /-- BLK.DYNAMIC: the field HLIT. -/
  | hlit
  /-- BLK.DYNAMIC: the field HDIST. -/
  | hdist
  /-- BLK.DYNAMIC: the field HCLEN. -/
  | hclen
  /-- BLK.DYNAMIC: the code lengths of the code-length alphabet. -/
  | clcl
  /-- BLK.DYNAMIC: the build of `CLT`, which ends inside the step that reads `CLCL`. -/
  | buildClt
  /-- CLSEQ: a code-length symbol. -/
  | codeLengths
  /-- EXPAND: a literal/length symbol. -/
  | expand
  /-- EXPAND: the distance code of a match. -/
  | distance
  /-- The block decoder has returned; the step that reached this also ends the block. -/
  | returned
  deriving DecidableEq, Repr

/-- The model's own: what an internal operation run on its own returned (log 9). -/
inductive OpResult where
  | nothing
  | value (v : Nat)
  | bytes (data : List Byte)
  deriving DecidableEq, Repr

/-- `Result<bytes, FormatError>` of the entry point (46_decode_loop.md R260, R266). -/
inductive RunResult where
  | ok (bytes : List Byte)
  | err (cause : Cause)
  deriving DecidableEq, Repr

/-- The machine stops with a fault: the closed list of the model's stuck states. -/
inductive Fault where
  /-- Raised by CLSEQ, EXPAND and BLK.HDR run in one piece, when a loop has gone round more often than
  there are lengths to emit or bits in `IN`; only a tree no HT.BUILD makes (a root that carries a symbol)
  can cause it (70_reset_and_hazards.md R322; log 13). Safe: the machine stops where the pseudocode
  would loop for ever. -/
  | loopWithoutProgress
  deriving DecidableEq, Repr

/-- A call the spec gives no meaning, or an instruction the model has none for. -/
inductive Refusal where
  /-- Raised by an arm of `exec` whose instruction has no meaning yet. Safe. -/
  | notModelled (mnemonic : String)
  /-- Raised by RB.BYTES at `CUR mod 8 ≠ 0` (20_memory.md R70, decision D19; log 10). Safe. -/
  | unalignedBytes
  /-- Raised by HT.DECODE of a tree register that holds no tree (70_reset_and_hazards.md R317; log 11).
  Safe. -/
  | noTree
  /-- Raised by COPY when `DISTANCE` is not in 1..`OUT_LEN`, the operand range of 45_lz77.md R234, so
  that a byte outside `OUT` would be read (10_state.md R23; log 12). Safe. -/
  | copyOutsideWindow
  /-- Raised by a step whose fetched word is no row of its format: an operation word of the port that
  names no operation, or a code-length symbol above 18 (log 14). Safe. -/
  | noSuchInstruction
  /-- Raised by a step of a run that is over, in DONE or FAULT, when the port asks for an operation that
  is no host transaction: these states have no successor but by LAUNCH (46_decode_loop.md R261, R266;
  log 8). Safe. -/
  | runIsOver
  /-- Raised by a step in DISPATCHING with no element to fetch, which no run reaches (log 14). Safe. -/
  | noElement
  deriving DecidableEq, Repr

/-- Why a piece of pseudocode ends early: a `raise` of the spec (00_scope.md R10), or one of the model's
two kinds of stop. -/
inductive Trap where
  | raise (cause : Cause)
  | refuse (reason : Refusal)
  | stuck (reason : Fault)
  deriving DecidableEq, Repr

/-- The state of the machine (10_state.md R20). -/
structure State where
  /-- `IN` (R21). -/
  input      : Memory
  /-- `IN_LEN` (R21). -/
  inLen      : Nat
  /-- `CUR`, the bit cursor and program counter (R22). -/
  cur        : Nat
  /-- `OUT` (R23). -/
  out        : Memory
  /-- `OUT_LEN` (R23). -/
  outLen     : Nat
  /-- `FSM` (R24). -/
  fsm        : Fsm
  /-- `ERR` (R25). -/
  err        : Cause
  /-- `BFINAL`, 1 bit (R26). -/
  bfinal     : Bool
  /-- `BTYPE`, 0..3 (R27). -/
  btype      : Nat
  /-- `LEN`, 16 bits (R28). -/
  len        : Word16
  /-- `NLEN`, 16 bits (R28). -/
  nlen       : Word16
  /-- `HLIT`, 257..288 (R29). -/
  hlit       : Nat
  /-- `HDIST`, 1..32 (R29). -/
  hdist      : Nat
  /-- `HCLEN`, 4..19 (R29). -/
  hclen      : Nat
  /-- `CLCL[0..18]`, each 0..7 (R30). -/
  clcl       : List Nat
  /-- `LLCL[0..287]`, each 0..15 (R31). -/
  llcl       : List Nat
  /-- `DCL[0..31]`, each 0..15, of which `DCL[0..HDIST-1]` are in use (R32). -/
  dcl        : List Nat
  /-- `CLT` (R34). -/
  clt        : Tree
  /-- `LLT` (R34). -/
  llt        : Tree
  /-- `DT` (R34). -/
  dt         : Tree
  /-- `DT_PRESENT`, 1 bit (R34). -/
  dtPresent  : Bool
  /-- `BL_COUNT[0..15]` (R36). -/
  blCount    : List Nat
  /-- `NEXT_CODE[1..15]` (R36), with an unused entry 0. -/
  nextCode   : List Nat
  /-- `CODE` (R36). -/
  code       : Nat
  /-- `SYM`, 0..287 (R37). -/
  sym        : Nat
  /-- `EBITS`, 0..13 (R37). -/
  ebits      : Nat
  /-- `EXTRA`, 0..8191 (R37). -/
  extra      : Nat
  /-- `LENGTH`, 3..258 (R37). -/
  length     : Nat
  /-- `DCODE`, 0..31 (R37). -/
  dcode      : Nat
  /-- `DISTANCE`, 1..32768 (R37). -/
  distance   : Nat
  /-- `CLI`, 0..288 (R38). -/
  cli        : Nat
  /-- `CLSYM`, 0..18 (R38). -/
  clsym      : Nat
  /-- `REP`, 3..138 (R38). -/
  rep        : Nat
  /-- The configuration: `FIXED_DIST_ORDER` (00_scope.md R5, R40); no rule writes it (log 1). -/
  cfg        : Config
  /-- The model's own: the next element of the running block decoder (log 5). -/
  phase      : Phase
  /-- The model's own: the table the code-length reader fills (log 5). -/
  seqTable   : SeqTable
  /-- The model's own: an operation word asked for from outside, run by the next step (log 8). -/
  port       : Option Nat
  /-- The model's own: what the last internal operation run on its own returned (log 9). -/
  opResult   : OpResult
  /-- The model's own: what RESULT handed to the host (log 7). -/
  result     : Option RunResult
  deriving DecidableEq, Repr

/-- The launch state of 10_state.md R41 with the empty input (log 2). Items the spec leaves unspecified
at launch hold 0 (log 3). -/
def State.reset : State where
  input      := []
  inLen      := 0
  cur        := 0
  out        := []
  outLen     := 0
  fsm        := .readingHeader
  err        := .none
  bfinal     := false
  btype      := 0
  len        := 0
  nlen       := 0
  hlit       := 0
  hdist      := 0
  hclen      := 0
  clcl       := List.replicate clSize 0
  llcl       := List.replicate llSize 0
  dcl        := List.replicate dSize 0
  clt        := .none
  llt        := .none
  dt         := .none
  dtPresent  := false
  blCount    := List.replicate (maxBits + 1) 0
  nextCode   := List.replicate (maxBits + 1) 0
  code       := 0
  sym        := 0
  ebits      := 0
  extra      := 0
  length     := 0
  dcode      := 0
  distance   := 0
  cli        := 0
  clsym      := 0
  rep        := 0
  cfg        := Config.thisHardware
  phase      := .idle
  seqTable   := .ll
  port       := Option.none
  opResult   := .nothing
  result     := Option.none

end Sys2Proof.Machine
end

