-- ==== Sys2Proof/Machine/Ops.lean ====
section
/-! DEFINITION. Machine/Ops.lean: the named operations over memory and registers, taking a fault, and
the launch that alone leaves one.

The pseudocode of the spec is written in `M`: a computation over State that answers a value and the next
state, or ends early with a trap. -/

namespace Sys2Proof.Machine

/-- A piece of the spec's pseudocode (00_scope.md R9): sequential, over the whole state. -/
abbrev M := EStateM Trap State

/-! ### The two byte spaces -/

/-- What an address that no pair lists reads as, where the address exists: a byte 0x00 is not listed
(log 4). -/
def Memory.unlisted : Byte := 0

/-- The byte at an address (20_memory.md R60). Callers ask only for addresses below the space's length. -/
def Memory.read : Memory → Nat → Byte
  | [], _ => Memory.unlisted
  | (k, v) :: m, a => if a = k then v else Memory.read m a

/-- The pairs of a memory without those at `a`. -/
def Memory.remove (m : Memory) (a : Nat) : Memory := m.filter fun c => c.1 ≠ a

/-- A pair put before the first higher address. -/
def Memory.insertCell : Memory → Nat → Byte → Memory
  | [], a, b => [(a, b)]
  | (k, v) :: m, a, b => if a < k then (a, b) :: (k, v) :: m else (k, v) :: Memory.insertCell m a b

/-- A byte put at an address, in canonical form. -/
def Memory.write (m : Memory) (a : Nat) (b : Byte) : Memory :=
  if b = Memory.unlisted then m.remove a else (m.remove a).insertCell a b

/-- The canonical form: addresses strictly rising, no pair that an unlisted address stands for. -/
def Memory.wf : Memory → Bool
  | [] => true
  | [c] => decide (c.2 ≠ Memory.unlisted)
  | c :: d :: m => decide (c.2 ≠ Memory.unlisted) && decide (c.1 < d.1) && Memory.wf (d :: m)

/-- No pair stands at or above a length: no address outside the space is listed. -/
def Memory.within (m : Memory) (n : Nat) : Bool := m.all fun c => decide (c.1 < n)

/-- A byte sequence laid into a space from index `a` on. -/
def Memory.ofBytesFrom : Nat → List Byte → Memory
  | _, [] => []
  | a, b :: bs =>
    if b = Memory.unlisted then Memory.ofBytesFrom (a + 1) bs else (a, b) :: Memory.ofBytesFrom (a + 1) bs

/-- A byte sequence as a space, its first byte at index 0 (46_decode_loop.md R260: `IN <- compressed`). -/
def Memory.ofBytes (bytes : List Byte) : Memory := Memory.ofBytesFrom 0 bytes

/-- MemRead(a, n): the `n` bytes from index `a` on, in that order (00_scope.md R9). -/
def Memory.bytes (m : Memory) (a n : Nat) : List Byte := (List.range n).map fun i => m.read (a + i)

/-- OUT.append(b): the byte at `OUT_LEN`, which grows by one (00_scope.md R9, 20_memory.md R73). -/
def State.append (s : State) (b : Byte) : State :=
  { s with out := s.out.write s.outLen b, outLen := s.outLen + 1 }

/-- MemWrite(OUT_LEN, n, v): the bytes appended one after another (00_scope.md R9). -/
def State.appendAll (s : State) (data : List Byte) : State := data.foldl State.append s

/-- `OUT[0 .. OUT_LEN-1]`, the decompressed bytes (46_decode_loop.md R266). -/
def State.outBytes (s : State) : List Byte := s.out.bytes 0 s.outLen

/-! ### Taking a fault, and the one way out of it -/

/-- Fault entry, `raise C` (60_exceptions.md R292, 00_scope.md R10): `FSM <- FAULT`, `ERR <- C`; nothing
is saved and no later statement runs, so no element is left to fetch. Every other register is
unobservable afterwards and keeps what it held (log 6). -/
def State.takeFault (s : State) (c : Cause) : State :=
  { s with fsm := .fault, err := c, phase := .idle }

/-- LAUNCH (46_decode_loop.md R260): `IN` and `IN_LEN` take the argument, every other item its launch
value (10_state.md R41); the configuration is constant (R40). There is no return from a fault
(60_exceptions.md R293): this is the only way to leave FAULT or DONE (R266). -/
def State.launch (s : State) (bytes : List Byte) : State :=
  { State.reset with input := Memory.ofBytes bytes, inLen := bytes.length, cfg := s.cfg }

/-- `raise` of the pseudocode (00_scope.md R10). -/
def raise {α : Type} (c : Cause) : M α := throw (.raise c)

/-- A call the spec gives no meaning. -/
def refuse {α : Type} (r : Refusal) : M α := throw (.refuse r)

/-- What ends a piece of pseudocode early: a raise enters the fault, which is a next state
(60_exceptions.md R292); the model's own stops stop the machine. -/
def trapped (trap : Trap) (s : State) : Host.Outcome State Fault Refusal :=
  match trap with
  | .raise c => .next (s.takeFault c)
  | .refuse r => .refused r
  | .stuck f => .fault f

/-- The outcome of a piece of pseudocode run as one instruction. -/
def perform (m : M Unit) (s : State) : Host.Outcome State Fault Refusal :=
  match m s with
  | .ok _ t => .next t
  | .error trap t => trapped trap t

/-- An internal operation run on its own: what it returns goes to the model's result register (log 9). -/
def returning (m : M Nat) : M Unit := do
  let v ← m
  modify fun s => { s with opResult := .value v }

/-! ### The tree registers and the code-length tables -/

/-- The tree register a selector names (10_state.md R34). -/
def State.tree (s : State) (t : TreeSel) : Tree :=
  match t with
  | .clt => s.clt
  | .llt => s.llt
  | .dt => s.dt

/-- A tree put into the register a selector names. -/
def State.setTree (s : State) (t : TreeSel) (tree : Tree) : State :=
  match t with
  | .clt => { s with clt := tree }
  | .llt => { s with llt := tree }
  | .dt => { s with dt := tree }

/-- The code-length table a tree is built from, with its size: `CLCL` and 19, `LLCL` and 288, the first
`HDIST` entries of `DCL` (44_dynamic.md R195, R204). -/
def State.lengthsOf (s : State) (t : TreeSel) : List Nat :=
  match t with
  | .clt => s.clcl
  | .llt => s.llcl
  | .dt => s.dcl.take s.hdist

/-- The number of lengths the running sequence has, `HLIT` or `HDIST` (44_dynamic.md R196). -/
def State.seqLen (s : State) (t : SeqTable) : Nat :=
  match t with
  | .ll => s.hlit
  | .d => s.hdist

/-- `S[i]` of the running sequence (44_dynamic.md R196). -/
def State.seqEntry (s : State) (i : Nat) : Nat :=
  match s.seqTable with
  | .ll => s.llcl.getD i 0
  | .d => s.dcl.getD i 0

/-- `S[CLI] <- v; CLI <- CLI + 1` of the running sequence (44_dynamic.md R196). -/
def State.emitLength (s : State) (v : Nat) : State :=
  match s.seqTable with
  | .ll => { s with llcl := s.llcl.set s.cli v, cli := s.cli + 1 }
  | .d => { s with dcl := s.dcl.set s.cli v, cli := s.cli + 1 }

/-! ### Entering and leaving a block -/

/-- The header registers of the block that starts, and `FSM <- DISPATCHING` (46_decode_loop.md R262). -/
def State.enterBlock (s : State) (bfinal : Bool) (btype : Nat) : State :=
  { s with bfinal := bfinal, btype := btype, fsm := .dispatching }

/-- After a block decoder returns (46_decode_loop.md R265): `FSM` goes to DONE or back to
READING_HEADER by `BFINAL`, and the block's trees are destroyed (10_state.md R35, log 19). -/
def State.leaveBlock (s : State) : State :=
  { s with fsm := if s.bfinal then .done else .readingHeader, phase := .idle,
           clt := .none, llt := .none, dt := .none }

end Sys2Proof.Machine
end

