-- ==== Sys2Proof/Machine/Flags.lean ====
section
/-! DEFINITION. Machine/Flags.lean: the conditions the pseudocode tests, and the numbers of the status
registers.

The hardware has no arithmetic flags: its flags are `BFINAL` and `DT_PRESENT` (10_state.md R26, R34), each
written as read or as a constant, and the tests below decide the faults. -/

namespace Sys2Proof.Machine

/-- The encoding of `FSM` (10_state.md R24). -/
def Fsm.number : Fsm → Nat
  | .readingHeader => 0
  | .dispatching => 1
  | .done => 2
  | .fault => 3

/-- The number of a cause in `ERR` (60_exceptions.md R281). -/
def Cause.number : Cause → Nat
  | .none => 0
  | .streamTruncated => 1
  | .reservedBlockType => 2
  | .storedBlockLengthMismatch => 3
  | .invalidSymbol => 4
  | .malformedHuffmanTable => 5
  | .codeLengthRepeatWithoutPrevious => 6
  | .codeLengthRunOverflow => 7
  | .distanceTooFar => 8

/-- A run is over exactly when `FSM` is DONE or FAULT (46_decode_loop.md R268). -/
def State.over (s : State) : Bool := s.fsm == .done || s.fsm == .fault

/-- A bit can be read: `CUR < 8*IN_LEN` (40_bitreader.md R131). -/
def State.hasBit (s : State) : Bool := decide (s.cur < 8 * s.inLen)

/-- The cursor stands on a byte boundary (20_memory.md R70). -/
def State.aligned (s : State) : Bool := s.cur % 8 == 0

/-- `LEN xor NLEN = 0xFFFF` (42_stored.md R170, R172). -/
def State.storedCheck (s : State) : Bool := (s.len ^^^ s.nlen) == 0xFFFF#16

/-- `DISTANCE <= OUT_LEN` (45_lz77.md R233). -/
def State.distanceInWindow (s : State) : Bool := decide (s.distance ≤ s.outLen)

/-- `DISTANCE` is in 1..`OUT_LEN`, so that `OUT[OUT_LEN - DISTANCE]` is a byte of `OUT`
(20_memory.md R74, 45_lz77.md R234). -/
def State.windowReadable (s : State) : Bool := decide (1 ≤ s.distance) && decide (s.distance ≤ s.outLen)

/-- `CLI + REP > n` (44_dynamic.md R202). -/
def State.runOverflows (s : State) : Bool := decide (s.cli + s.rep > s.seqLen s.seqTable)

/-- The Kraft sum of a table in units of 2^-15: the sum over L = 1..15 of `BL_COUNT[L] * 2^(15-L)`
(41_huffman.md R153). -/
def kraftSum (blCount : List Nat) : Nat :=
  ((List.range maxBits).map fun k => blCount.getD (k + 1) 0 * 2 ^ (maxBits - (k + 1))).sum

/-- A table is over-subscribed when its Kraft sum exceeds 1 (41_huffman.md R153). -/
def overSubscribed (blCount : List Nat) : Bool := decide (kraftSum blCount > 2 ^ maxBits)

end Sys2Proof.Machine
end

