-- ==== Sys2Proof/Machine/BitReader.lean ====
section
/-! DEFINITION. Machine/BitReader.lean: the five BitReader primitives (40_bitreader.md) and the meanings of
their rows RB.BIT, RB.MSB, RB.LSB, RB.BYTES and RB.ALIGN. -/

namespace Sys2Proof.Machine

/-- The bit at bit index `c`: bit `c mod 8` of byte `c div 8` (20_memory.md R64). -/
def Memory.bit (m : Memory) (c : Nat) : Nat := ((m.read (c / 8)).toNat >>> (c % 8)) &&& 1

/-- RB.BIT (40_bitreader.md R131). -/
def rbBit : M Nat := do
  let s ← get
  if s.hasBit then
    set { s with cur := s.cur + 1 }
    return s.input.bit s.cur
  else
    raise .streamTruncated

/-- The loop of RB.MSB: `v <- (v << 1) | RB.BIT()` (40_bitreader.md R132). -/
def rbMsbLoop : Nat → Nat → M Nat
  | 0, v => pure v
  | n + 1, v => do
    let b ← rbBit
    rbMsbLoop n ((v <<< 1) ||| b)

/-- RB.MSB(n) (40_bitreader.md R132), for every natural `n` (R137). -/
def rbMsb (n : Nat) : M Nat := rbMsbLoop n 0

/-- The loop of RB.LSB from bit position `i` on: `v <- v | (RB.BIT() << i)` (40_bitreader.md R133). -/
def rbLsbLoop : Nat → Nat → Nat → M Nat
  | 0, _, v => pure v
  | n + 1, i, v => do
    let b ← rbBit
    rbLsbLoop n (i + 1) (v ||| (b <<< i))

/-- RB.LSB(n) (40_bitreader.md R133), for every natural `n` (R137). -/
def rbLsb (n : Nat) : M Nat := rbLsbLoop n 0 0

/-- RB.BYTES(n) (40_bitreader.md R134): the bound is tested before any byte is read (decision D22), and
an unaligned call is refused (20_memory.md R70, decision D19; log 10). -/
def rbBytes (n : Nat) : M (List Byte) := do
  let s ← get
  if !s.aligned then
    refuse .unalignedBytes
  else if s.cur / 8 + n > s.inLen then
    raise .streamTruncated
  else
    set { s with cur := s.cur + 8 * n }
    return s.input.bytes (s.cur / 8) n

/-- RB.ALIGN (40_bitreader.md R135). -/
def rbAlign : M Unit :=
  modify fun s => if s.aligned then s else { s with cur := s.cur + (8 - s.cur % 8) }

/-! ### The meanings -/

/-- RB.BIT run on its own (R131): it returns the bit. -/
def execRbBit (s : State) : Host.Outcome State Fault Refusal := perform (returning rbBit) s

/-- RB.MSB(n) run on its own (R132): it returns the value. -/
def execRbMsb (n : Nat) (s : State) : Host.Outcome State Fault Refusal := perform (returning (rbMsb n)) s

/-- RB.LSB(n) run on its own (R133): it returns the value. -/
def execRbLsb (n : Nat) (s : State) : Host.Outcome State Fault Refusal := perform (returning (rbLsb n)) s

/-- RB.BYTES(n) run on its own (R134): it returns the bytes; no primitive writes any state but `CUR` and
its result (R130), so they reach `OUT` only through the stored block that asks for them (R170). -/
def execRbBytes (n : Nat) (s : State) : Host.Outcome State Fault Refusal :=
  perform (do
    let data ← rbBytes n
    modify fun s => { s with opResult := .bytes data }) s

/-- RB.ALIGN run on its own (R135): it returns nothing. -/
def execRbAlign (s : State) : Host.Outcome State Fault Refusal :=
  perform (do
    rbAlign
    modify fun s => { s with opResult := .nothing }) s

end Sys2Proof.Machine
end

