-- ==== Sys2Proof/Machine/Huffman.lean ====
section
/-! DEFINITION. Machine/Huffman.lean: HT.BUILD and HT.DECODE (41_huffman.md) and the meanings of their rows. -/

namespace Sys2Proof.Machine

/-! ### HT.BUILD -/

/-- Step 1 (R151): `BL_COUNT`, how many symbols use each length; length 0 is not counted. -/
def countLengths (lengths : List Nat) : List Nat :=
  lengths.foldl (fun counts l => if l = 0 then counts else counts.set l (counts.getD l 0 + 1))
    (List.replicate (maxBits + 1) 0)

/-- `CODE` after the first `n` lengths of step 2 (R152): `CODE <- (CODE + BL_COUNT[L-1]) << 1`, from 0. -/
def firstCode (blCount : List Nat) : Nat → Nat
  | 0 => 0
  | l + 1 => (firstCode blCount l + blCount.getD l 0) <<< 1

/-- Step 2 (R152): `NEXT_CODE[L]` for each length; entry 0 is not used. -/
def firstCodes (blCount : List Nat) : List Nat := (List.range (maxBits + 1)).map (firstCode blCount)

/-- The left child of a node; a node not yet made has none. -/
def Tree.left : Tree → Tree
  | .none => .none
  | .node l _ _ => l

/-- The right child of a node; a node not yet made has none. -/
def Tree.right : Tree → Tree
  | .none => .none
  | .node _ r _ => r

/-- The symbol of a node; a node not yet made has none. -/
def Tree.symbol : Tree → Option Nat
  | .none => Option.none
  | .node _ _ sym => sym

/-- The walk of step 3 (R154) for the low `l` bits of code `c`, most significant first: bit 1 to the
right, bit 0 to the left, nodes made as they are needed, the symbol put on the last one. -/
def Tree.insert (tree : Tree) (l c sym : Nat) : Tree :=
  match l with
  | 0 => .node tree.left tree.right (some sym)
  | l + 1 =>
    if c.testBit l then .node tree.left (tree.right.insert l c sym) tree.symbol
    else .node (tree.left.insert l c sym) tree.right tree.symbol

/-- Step 3 (R154) from symbol `sym` on: each symbol of non-zero length takes the next code of its length. -/
def assignCodes : List Nat → Nat → List Nat → Tree → List Nat × Tree
  | [], _, nextCode, tree => (nextCode, tree)
  | l :: lengths, sym, nextCode, tree =>
    if l = 0 then assignCodes lengths (sym + 1) nextCode tree
    else
      assignCodes lengths (sym + 1) (nextCode.set l (nextCode.getD l 0 + 1))
        (tree.insert l (nextCode.getD l 0) sym)

/-- A node with no child and no symbol, the root step 3 starts from (R150). -/
def emptyRoot : Tree := .node .none .none Option.none

/-- HT.BUILD of a tree from its table (R150): step 1, the check, step 2, step 3. -/
def htBuild (t : TreeSel) : M Unit := do
  modify fun s => { s with blCount := countLengths (s.lengthsOf t) }
  let s ← get
  if overSubscribed s.blCount then
    raise .malformedHuffmanTable
  else
    set { s with nextCode := firstCodes s.blCount, code := firstCode s.blCount maxBits }
    modify fun s =>
      let built := assignCodes (s.lengthsOf t) 0 s.nextCode emptyRoot
      ({ s with nextCode := built.1 } : State).setTree t built.2

/-! ### HT.DECODE -/

/-- There is no node here. -/
def Tree.isNone : Tree → Bool
  | .none => true
  | .node _ _ _ => false

/-- The descent from a node (R156): at a leaf its symbol, and an empty leaf is malformed (R157 b); else a
bit is read first (R160) and a missing child is malformed (R157 a). A register that holds no tree at all
has no node to start from (log 11). -/
def Tree.descend : Tree → M Nat
  | .none => refuse .noTree
  | .node l r sym =>
    if l.isNone && r.isNone then
      match sym with
      | some v => pure v
      | Option.none => raise .malformedHuffmanTable
    else do
      let b ← rbBit
      if b = 1 then
        if r.isNone then raise .malformedHuffmanTable else r.descend
      else
        if l.isNone then raise .malformedHuffmanTable else l.descend

/-- HT.DECODE(T) (R156). -/
def htDecode (t : TreeSel) : M Nat := do
  let s ← get
  (s.tree t).descend

/-! ### The meanings -/

/-- HT.BUILD run on its own (R150): the tree goes to its register. -/
def execHtBuild (t : TreeSel) (s : State) : Host.Outcome State Fault Refusal := perform (htBuild t) s

/-- HT.DECODE run on its own (R156): it returns the symbol. -/
def execHtDecode (t : TreeSel) (s : State) : Host.Outcome State Fault Refusal :=
  perform (returning (htDecode t)) s

end Sys2Proof.Machine
end

