-- ==== Sys2Proof/Machine/Operands.lean ====
section
/-! DEFINITION. Machine/Operands.lean: field and operand assembly: the constant tables ORDER and FIXED_LL,
the biases of 30_encoding.md R102, and the length and distance formulas of R98 and R99. -/

namespace Sys2Proof.Machine

/-- ORDER, the transmission order of the code-length alphabet (30_encoding.md R95). -/
def codeLengthOrder : List Nat := [16, 17, 18, 0, 8, 7, 9, 6, 10, 5, 11, 4, 12, 3, 13, 2, 14, 1, 15]

/-- FIXED_LL as a function of the symbol (43_fixed.md R180). -/
def fixedLength (symbol : Nat) : Nat :=
  if symbol ≤ 143 then 8 else if symbol ≤ 255 then 9 else if symbol ≤ 279 then 7 else 8

/-- FIXED_LL, all 288 entries (43_fixed.md R180). -/
def fixedLengths : List Nat := (List.range llSize).map fixedLength

/-! ### Widths and biases of the fields (30_encoding.md R102) -/

/-- `HLIT <- HLIT_RAW + 257` (44_dynamic.md R191). -/
def hlitOf (raw : Nat) : Nat := raw + 257

/-- `HDIST <- HDIST_RAW + 1` (44_dynamic.md R192). -/
def hdistOf (raw : Nat) : Nat := raw + 1

/-- `HCLEN <- HCLEN_RAW + 4` (44_dynamic.md R193). -/
def hclenOf (raw : Nat) : Nat := raw + 4

/-- The run of symbol 16, `3 + extra` (44_dynamic.md R198). -/
def rep16Of (raw : Nat) : Nat := 3 + raw

/-- The run of symbol 17, `3 + extra` (44_dynamic.md R199). -/
def zero17Of (raw : Nat) : Nat := 3 + raw

/-- The run of symbol 18, `11 + extra` (44_dynamic.md R200). -/
def zero18Of (raw : Nat) : Nat := 11 + raw

/-! ### Lengths (45_lz77.md R223 to R225) -/

/-- `LENGTH` of symbols 257..264 (R223). -/
def shortLength (sym : Nat) : Nat := sym - 257 + 3

/-- `EBITS` of symbols 265..284 (R224). -/
def lengthEbits (sym : Nat) : Nat := (sym - 257) / 4 - 1

/-- `LENGTH` of symbols 265..284 from `EBITS` and `EXTRA` (R224). -/
def longLength (sym ebits extra : Nat) : Nat :=
  (1 <<< (ebits + 2)) + (1 <<< ebits) * ((sym - 257) % 4) + 3 + extra

/-- `LENGTH` of symbol 285 (R225). -/
def longestLength : Nat := 258

/-! ### Distances (45_lz77.md R229, R230) -/

/-- `DISTANCE` of codes 0..3 (R229). -/
def shortDistance (code : Nat) : Nat := code + 1

/-- `EBITS` of codes 4..29 (R230). -/
def distanceEbits (code : Nat) : Nat := code / 2 - 1

/-- `DISTANCE` of codes 4..29 from `EBITS` and `EXTRA` (R230). -/
def longDistance (code ebits extra : Nat) : Nat :=
  (1 <<< (ebits + 1)) + (1 <<< ebits) * (code % 2) + 1 + extra

end Sys2Proof.Machine
end

