-- ==== Sys2Proof/Machine/Expander.lean ====
section
/-! DEFINITION. Machine/Expander.lean: the LZ77 expander (45_lz77.md): what each class of literal/length
symbol and distance code does, COPY, and the loop EXPAND in one piece.

The operations here follow the pseudocode of R220 and do not touch the model's `phase`; the meanings of
the rows add where the pseudocode goes next. -/

namespace Sys2Proof.Machine

/-! ### Literal/length symbols -/

/-- LL.LIT (R221): the byte whose value is the symbol is appended. -/
def literal (sym : Nat) : M Unit := modify fun s => s.append (BitVec.ofNat 8 sym)

/-- LL.LEN257 to LL.LEN264 (R223): no extra bits. -/
def shortLengthSymbol (sym : Nat) : M Unit := modify fun s => { s with length := shortLength sym }

/-- LL.LEN265 to LL.LEN284 (R224): `EBITS` extra bits, LSB-first. -/
def longLengthSymbol (sym : Nat) : M Unit := do
  modify fun s => { s with ebits := lengthEbits sym }
  let extra ← rbLsb (lengthEbits sym)
  modify fun s => { s with extra := extra, length := longLength sym (lengthEbits sym) extra }

/-- LL.LEN285 (R225): 258 exactly. -/
def longestLengthSymbol : M Unit := modify fun s => { s with length := longestLength }

/-- LL.INVALID286 and 287 (R226). -/
def invalidSymbol : M Unit := raise .invalidSymbol

/-! ### The distance of a match -/

/-- DIST.FETCH (R228): from `DT` when there is one, else the raw field in the order FIXED_DIST_ORDER
(43_fixed.md R182). -/
def distFetch : M Nat := do
  let s ← get
  if s.dtPresent then
    htDecode .dt
  else
    match s.cfg.fixedDistOrder with
    | .lsb => rbLsb 5
    | .msb => rbMsb 5

/-- D.0 to D.3 (R229): no extra bits. -/
def shortDistanceCode (code : Nat) : M Unit := modify fun s => { s with distance := shortDistance code }

/-- D.4 to D.29 (R230): `EBITS` extra bits, LSB-first. -/
def longDistanceCode (code : Nat) : M Unit := do
  modify fun s => { s with ebits := distanceEbits code }
  let extra ← rbLsb (distanceEbits code)
  modify fun s => { s with extra := extra, distance := longDistance code (distanceEbits code) extra }

/-- D.30 and D.31, and any code above (R231). -/
def invalidDistanceCode : M Unit := raise .invalidSymbol

/-- The window check (R233), after the distance is known and before any byte is copied (R237). -/
def windowCheck : M Unit := do
  let s ← get
  if s.distanceInWindow then pure () else raise .distanceTooFar

/-- One step of COPY (R234): `OUT.append(OUT[OUT_LEN - DISTANCE])`, with the current `OUT_LEN`. -/
def copyByte : M Unit := do
  let s ← get
  if s.windowReadable then
    set (s.append (s.out.read (s.outLen - s.distance)))
  else
    refuse .copyOutsideWindow

/-- `n` steps of COPY, one byte after another (R234, R235, 70_reset_and_hazards.md R315). -/
def copyBytes : Nat → M Unit
  | 0 => pure ()
  | n + 1 => do
    copyByte
    copyBytes n

/-- COPY(LENGTH, DISTANCE) (R234). -/
def copyMatch : M Unit := do
  let s ← get
  copyBytes s.length

/-! ### By class, as the pseudocode of R220 branches -/

/-- The `LENGTH` of a length symbol, 257..285 (R223 to R225). -/
def lengthSymbol (sym : Nat) : M Unit :=
  if sym ≤ 264 then shortLengthSymbol sym
  else if sym = 285 then longestLengthSymbol
  else longLengthSymbol sym

/-- The `DISTANCE` of a code, tested against 30 first (R229 to R231, R237). -/
def distanceCode (code : Nat) : M Unit :=
  if 30 ≤ code then invalidDistanceCode
  else if code ≤ 3 then shortDistanceCode code
  else longDistanceCode code

/-- A match from its distance code on: distance, window check, copy (R237). -/
def finishMatch (code : Nat) : M Unit := do
  distanceCode code
  windowCheck
  copyMatch

/-- EXPAND, at most `fuel` rounds of the loop of R220; more rounds than bits of `IN` means a round that
consumed nothing (log 13). -/
def expandLoop : Nat → M Unit
  | 0 => throw (.stuck .loopWithoutProgress)
  | fuel + 1 => do
    let sym ← htDecode .llt
    modify fun s => { s with sym := sym }
    if sym < 256 then
      literal sym
      expandLoop fuel
    else if sym = 256 then
      pure ()
    else if sym ≤ 285 then
      lengthSymbol sym
      let code ← distFetch
      modify fun s => { s with dcode := code }
      finishMatch code
      expandLoop fuel
    else
      invalidSymbol

/-- EXPAND (R220), with the fuel of 70_reset_and_hazards.md R322. -/
def expandAll : M Unit := do
  let s ← get
  expandLoop (8 * s.inLen + 1)

/-! ### The meanings of EXPAND and COPY -/

/-- EXPAND run in one piece (R220): it returns at the end-of-block symbol, and with it the block decoder
that called it (43_fixed.md R181, 44_dynamic.md R190). -/
def execExpand (s : State) : Host.Outcome State Fault Refusal :=
  perform (do
    expandAll
    modify fun s => { s with phase := .returned }) s

/-- COPY run on its own (R234), with the registers `LENGTH` and `DISTANCE` as its operands. -/
def execCopy (s : State) : Host.Outcome State Fault Refusal := perform copyMatch s

end Sys2Proof.Machine
end

