-- ==== Sys2Proof/Machine/Distances.lean ====
section
/-! DEFINITION. Machine/Distances.lean: the meanings of the 32 distance codes D.0 to D.31 (45_lz77.md R229 to R231),
each with the window check (R233) and the copy (R234) that end its match (R237). -/

namespace Sys2Proof.Machine

/-- A match from its distance on: the window check, the copy, and the next symbol (R233, R234, R237). -/
def thenCopy (m : M Unit) : M Unit := do
  m
  windowCheck
  copyMatch
  modify fun s => { s with phase := .expand }

/-- D.0 (R229). -/
def execD0 (s : State) : Host.Outcome State Fault Refusal := perform (thenCopy (shortDistanceCode 0)) s

/-- D.1 (R229). -/
def execD1 (s : State) : Host.Outcome State Fault Refusal := perform (thenCopy (shortDistanceCode 1)) s

/-- D.2 (R229). -/
def execD2 (s : State) : Host.Outcome State Fault Refusal := perform (thenCopy (shortDistanceCode 2)) s

/-- D.3 (R229). -/
def execD3 (s : State) : Host.Outcome State Fault Refusal := perform (thenCopy (shortDistanceCode 3)) s

/-- D.4 (R230). -/
def execD4 (s : State) : Host.Outcome State Fault Refusal := perform (thenCopy (longDistanceCode 4)) s

/-- D.5 (R230). -/
def execD5 (s : State) : Host.Outcome State Fault Refusal := perform (thenCopy (longDistanceCode 5)) s

/-- D.6 (R230). -/
def execD6 (s : State) : Host.Outcome State Fault Refusal := perform (thenCopy (longDistanceCode 6)) s

/-- D.7 (R230). -/
def execD7 (s : State) : Host.Outcome State Fault Refusal := perform (thenCopy (longDistanceCode 7)) s

/-- D.8 (R230). -/
def execD8 (s : State) : Host.Outcome State Fault Refusal := perform (thenCopy (longDistanceCode 8)) s

/-- D.9 (R230). -/
def execD9 (s : State) : Host.Outcome State Fault Refusal := perform (thenCopy (longDistanceCode 9)) s

/-- D.10 (R230). -/
def execD10 (s : State) : Host.Outcome State Fault Refusal := perform (thenCopy (longDistanceCode 10)) s

/-- D.11 (R230). -/
def execD11 (s : State) : Host.Outcome State Fault Refusal := perform (thenCopy (longDistanceCode 11)) s

/-- D.12 (R230). -/
def execD12 (s : State) : Host.Outcome State Fault Refusal := perform (thenCopy (longDistanceCode 12)) s

/-- D.13 (R230). -/
def execD13 (s : State) : Host.Outcome State Fault Refusal := perform (thenCopy (longDistanceCode 13)) s

/-- D.14 (R230). -/
def execD14 (s : State) : Host.Outcome State Fault Refusal := perform (thenCopy (longDistanceCode 14)) s

/-- D.15 (R230). -/
def execD15 (s : State) : Host.Outcome State Fault Refusal := perform (thenCopy (longDistanceCode 15)) s

/-- D.16 (R230). -/
def execD16 (s : State) : Host.Outcome State Fault Refusal := perform (thenCopy (longDistanceCode 16)) s

/-- D.17 (R230). -/
def execD17 (s : State) : Host.Outcome State Fault Refusal := perform (thenCopy (longDistanceCode 17)) s

/-- D.18 (R230). -/
def execD18 (s : State) : Host.Outcome State Fault Refusal := perform (thenCopy (longDistanceCode 18)) s

/-- D.19 (R230). -/
def execD19 (s : State) : Host.Outcome State Fault Refusal := perform (thenCopy (longDistanceCode 19)) s

/-- D.20 (R230). -/
def execD20 (s : State) : Host.Outcome State Fault Refusal := perform (thenCopy (longDistanceCode 20)) s

/-- D.21 (R230). -/
def execD21 (s : State) : Host.Outcome State Fault Refusal := perform (thenCopy (longDistanceCode 21)) s

/-- D.22 (R230). -/
def execD22 (s : State) : Host.Outcome State Fault Refusal := perform (thenCopy (longDistanceCode 22)) s

/-- D.23 (R230). -/
def execD23 (s : State) : Host.Outcome State Fault Refusal := perform (thenCopy (longDistanceCode 23)) s

/-- D.24 (R230). -/
def execD24 (s : State) : Host.Outcome State Fault Refusal := perform (thenCopy (longDistanceCode 24)) s

/-- D.25 (R230). -/
def execD25 (s : State) : Host.Outcome State Fault Refusal := perform (thenCopy (longDistanceCode 25)) s

/-- D.26 (R230). -/
def execD26 (s : State) : Host.Outcome State Fault Refusal := perform (thenCopy (longDistanceCode 26)) s

/-- D.27 (R230). -/
def execD27 (s : State) : Host.Outcome State Fault Refusal := perform (thenCopy (longDistanceCode 27)) s

/-- D.28 (R230). -/
def execD28 (s : State) : Host.Outcome State Fault Refusal := perform (thenCopy (longDistanceCode 28)) s

/-- D.29 (R230). -/
def execD29 (s : State) : Host.Outcome State Fault Refusal := perform (thenCopy (longDistanceCode 29)) s

/-- D.30 (R231). -/
def execD30 (s : State) : Host.Outcome State Fault Refusal := perform (thenCopy invalidDistanceCode) s

/-- D.31 (R231). -/
def execD31 (s : State) : Host.Outcome State Fault Refusal := perform (thenCopy invalidDistanceCode) s

end Sys2Proof.Machine
end

