-- ==== Sys2Proof/Machine/Lengths.lean ====
section
/-! DEFINITION. Machine/Lengths.lean: the meanings of the rows LL.EOB, LL.LEN257 to LL.LEN285, LL.INVALID286 and
LL.INVALID287 (45_lz77.md R222 to R226).

A length symbol sets `LENGTH`; the distance code that follows is the next element (R223, R228). -/

namespace Sys2Proof.Machine

/-- The expander goes on to fetch the distance code of the match (R228). -/
def thenDistance (m : M Unit) : M Unit := do
  m
  modify fun s => { s with phase := .distance }

/-- LL.EOB (R222): EXPAND returns, and the block decoder with it; nothing is appended. -/
def execLlEob (s : State) : Host.Outcome State Fault Refusal :=
  perform (modify fun s => { s with phase := .returned }) s

/-- LL.LEN257 (R223). -/
def execLlLen257 (s : State) : Host.Outcome State Fault Refusal := perform (thenDistance (shortLengthSymbol 257)) s

/-- LL.LEN258 (R223). -/
def execLlLen258 (s : State) : Host.Outcome State Fault Refusal := perform (thenDistance (shortLengthSymbol 258)) s

/-- LL.LEN259 (R223). -/
def execLlLen259 (s : State) : Host.Outcome State Fault Refusal := perform (thenDistance (shortLengthSymbol 259)) s

/-- LL.LEN260 (R223). -/
def execLlLen260 (s : State) : Host.Outcome State Fault Refusal := perform (thenDistance (shortLengthSymbol 260)) s

/-- LL.LEN261 (R223). -/
def execLlLen261 (s : State) : Host.Outcome State Fault Refusal := perform (thenDistance (shortLengthSymbol 261)) s

/-- LL.LEN262 (R223). -/
def execLlLen262 (s : State) : Host.Outcome State Fault Refusal := perform (thenDistance (shortLengthSymbol 262)) s

/-- LL.LEN263 (R223). -/
def execLlLen263 (s : State) : Host.Outcome State Fault Refusal := perform (thenDistance (shortLengthSymbol 263)) s

/-- LL.LEN264 (R223). -/
def execLlLen264 (s : State) : Host.Outcome State Fault Refusal := perform (thenDistance (shortLengthSymbol 264)) s

/-- LL.LEN265 (R224). -/
def execLlLen265 (s : State) : Host.Outcome State Fault Refusal := perform (thenDistance (longLengthSymbol 265)) s

/-- LL.LEN266 (R224). -/
def execLlLen266 (s : State) : Host.Outcome State Fault Refusal := perform (thenDistance (longLengthSymbol 266)) s

/-- LL.LEN267 (R224). -/
def execLlLen267 (s : State) : Host.Outcome State Fault Refusal := perform (thenDistance (longLengthSymbol 267)) s

/-- LL.LEN268 (R224). -/
def execLlLen268 (s : State) : Host.Outcome State Fault Refusal := perform (thenDistance (longLengthSymbol 268)) s

/-- LL.LEN269 (R224). -/
def execLlLen269 (s : State) : Host.Outcome State Fault Refusal := perform (thenDistance (longLengthSymbol 269)) s

/-- LL.LEN270 (R224). -/
def execLlLen270 (s : State) : Host.Outcome State Fault Refusal := perform (thenDistance (longLengthSymbol 270)) s

/-- LL.LEN271 (R224). -/
def execLlLen271 (s : State) : Host.Outcome State Fault Refusal := perform (thenDistance (longLengthSymbol 271)) s

/-- LL.LEN272 (R224). -/
def execLlLen272 (s : State) : Host.Outcome State Fault Refusal := perform (thenDistance (longLengthSymbol 272)) s

/-- LL.LEN273 (R224). -/
def execLlLen273 (s : State) : Host.Outcome State Fault Refusal := perform (thenDistance (longLengthSymbol 273)) s

/-- LL.LEN274 (R224). -/
def execLlLen274 (s : State) : Host.Outcome State Fault Refusal := perform (thenDistance (longLengthSymbol 274)) s

/-- LL.LEN275 (R224). -/
def execLlLen275 (s : State) : Host.Outcome State Fault Refusal := perform (thenDistance (longLengthSymbol 275)) s

/-- LL.LEN276 (R224). -/
def execLlLen276 (s : State) : Host.Outcome State Fault Refusal := perform (thenDistance (longLengthSymbol 276)) s

/-- LL.LEN277 (R224). -/
def execLlLen277 (s : State) : Host.Outcome State Fault Refusal := perform (thenDistance (longLengthSymbol 277)) s

/-- LL.LEN278 (R224). -/
def execLlLen278 (s : State) : Host.Outcome State Fault Refusal := perform (thenDistance (longLengthSymbol 278)) s

/-- LL.LEN279 (R224). -/
def execLlLen279 (s : State) : Host.Outcome State Fault Refusal := perform (thenDistance (longLengthSymbol 279)) s

/-- LL.LEN280 (R224). -/
def execLlLen280 (s : State) : Host.Outcome State Fault Refusal := perform (thenDistance (longLengthSymbol 280)) s

/-- LL.LEN281 (R224). -/
def execLlLen281 (s : State) : Host.Outcome State Fault Refusal := perform (thenDistance (longLengthSymbol 281)) s

/-- LL.LEN282 (R224). -/
def execLlLen282 (s : State) : Host.Outcome State Fault Refusal := perform (thenDistance (longLengthSymbol 282)) s

/-- LL.LEN283 (R224). -/
def execLlLen283 (s : State) : Host.Outcome State Fault Refusal := perform (thenDistance (longLengthSymbol 283)) s

/-- LL.LEN284 (R224). -/
def execLlLen284 (s : State) : Host.Outcome State Fault Refusal := perform (thenDistance (longLengthSymbol 284)) s

/-- LL.LEN285 (R225). -/
def execLlLen285 (s : State) : Host.Outcome State Fault Refusal := perform (thenDistance longestLengthSymbol) s

/-- LL.INVALID286 (R226). -/
def execLlInvalid286 (s : State) : Host.Outcome State Fault Refusal := perform invalidSymbol s

/-- LL.INVALID287 (R226). -/
def execLlInvalid287 (s : State) : Host.Outcome State Fault Refusal := perform invalidSymbol s

end Sys2Proof.Machine
end

