-- ==== Sys2Proof/Machine/Literals.lean ====
section
/-! DEFINITION. Machine/Literals.lean: the meanings of the 256 literal rows LL.LIT0 to LL.LIT255 (45_lz77.md R221).

The symbol was fetched through `LLT`; a literal consumes no extra bits, and the expander goes on. -/

namespace Sys2Proof.Machine

/-- LL.LIT0 (R221). -/
def execLlLit0 (s : State) : Host.Outcome State Fault Refusal := perform (literal 0) s

/-- LL.LIT1 (R221). -/
def execLlLit1 (s : State) : Host.Outcome State Fault Refusal := perform (literal 1) s

/-- LL.LIT2 (R221). -/
def execLlLit2 (s : State) : Host.Outcome State Fault Refusal := perform (literal 2) s

/-- LL.LIT3 (R221). -/
def execLlLit3 (s : State) : Host.Outcome State Fault Refusal := perform (literal 3) s

/-- LL.LIT4 (R221). -/
def execLlLit4 (s : State) : Host.Outcome State Fault Refusal := perform (literal 4) s

/-- LL.LIT5 (R221). -/
def execLlLit5 (s : State) : Host.Outcome State Fault Refusal := perform (literal 5) s

/-- LL.LIT6 (R221). -/
def execLlLit6 (s : State) : Host.Outcome State Fault Refusal := perform (literal 6) s

/-- LL.LIT7 (R221). -/
def execLlLit7 (s : State) : Host.Outcome State Fault Refusal := perform (literal 7) s

/-- LL.LIT8 (R221). -/
def execLlLit8 (s : State) : Host.Outcome State Fault Refusal := perform (literal 8) s

/-- LL.LIT9 (R221). -/
def execLlLit9 (s : State) : Host.Outcome State Fault Refusal := perform (literal 9) s

/-- LL.LIT10 (R221). -/
def execLlLit10 (s : State) : Host.Outcome State Fault Refusal := perform (literal 10) s

/-- LL.LIT11 (R221). -/
def execLlLit11 (s : State) : Host.Outcome State Fault Refusal := perform (literal 11) s

/-- LL.LIT12 (R221). -/
def execLlLit12 (s : State) : Host.Outcome State Fault Refusal := perform (literal 12) s

/-- LL.LIT13 (R221). -/
def execLlLit13 (s : State) : Host.Outcome State Fault Refusal := perform (literal 13) s

/-- LL.LIT14 (R221). -/
def execLlLit14 (s : State) : Host.Outcome State Fault Refusal := perform (literal 14) s

/-- LL.LIT15 (R221). -/
def execLlLit15 (s : State) : Host.Outcome State Fault Refusal := perform (literal 15) s

/-- LL.LIT16 (R221). -/
def execLlLit16 (s : State) : Host.Outcome State Fault Refusal := perform (literal 16) s

/-- LL.LIT17 (R221). -/
def execLlLit17 (s : State) : Host.Outcome State Fault Refusal := perform (literal 17) s

/-- LL.LIT18 (R221). -/
def execLlLit18 (s : State) : Host.Outcome State Fault Refusal := perform (literal 18) s

/-- LL.LIT19 (R221). -/
def execLlLit19 (s : State) : Host.Outcome State Fault Refusal := perform (literal 19) s

/-- LL.LIT20 (R221). -/
def execLlLit20 (s : State) : Host.Outcome State Fault Refusal := perform (literal 20) s

/-- LL.LIT21 (R221). -/
def execLlLit21 (s : State) : Host.Outcome State Fault Refusal := perform (literal 21) s

/-- LL.LIT22 (R221). -/
def execLlLit22 (s : State) : Host.Outcome State Fault Refusal := perform (literal 22) s

/-- LL.LIT23 (R221). -/
def execLlLit23 (s : State) : Host.Outcome State Fault Refusal := perform (literal 23) s

/-- LL.LIT24 (R221). -/
def execLlLit24 (s : State) : Host.Outcome State Fault Refusal := perform (literal 24) s

/-- LL.LIT25 (R221). -/
def execLlLit25 (s : State) : Host.Outcome State Fault Refusal := perform (literal 25) s

/-- LL.LIT26 (R221). -/
def execLlLit26 (s : State) : Host.Outcome State Fault Refusal := perform (literal 26) s

/-- LL.LIT27 (R221). -/
def execLlLit27 (s : State) : Host.Outcome State Fault Refusal := perform (literal 27) s

/-- LL.LIT28 (R221). -/
def execLlLit28 (s : State) : Host.Outcome State Fault Refusal := perform (literal 28) s

/-- LL.LIT29 (R221). -/
def execLlLit29 (s : State) : Host.Outcome State Fault Refusal := perform (literal 29) s

/-- LL.LIT30 (R221). -/
def execLlLit30 (s : State) : Host.Outcome State Fault Refusal := perform (literal 30) s

/-- LL.LIT31 (R221). -/
def execLlLit31 (s : State) : Host.Outcome State Fault Refusal := perform (literal 31) s

/-- LL.LIT32 (R221). -/
def execLlLit32 (s : State) : Host.Outcome State Fault Refusal := perform (literal 32) s

/-- LL.LIT33 (R221). -/
def execLlLit33 (s : State) : Host.Outcome State Fault Refusal := perform (literal 33) s

/-- LL.LIT34 (R221). -/
def execLlLit34 (s : State) : Host.Outcome State Fault Refusal := perform (literal 34) s

/-- LL.LIT35 (R221). -/
def execLlLit35 (s : State) : Host.Outcome State Fault Refusal := perform (literal 35) s

/-- LL.LIT36 (R221). -/
def execLlLit36 (s : State) : Host.Outcome State Fault Refusal := perform (literal 36) s

/-- LL.LIT37 (R221). -/
def execLlLit37 (s : State) : Host.Outcome State Fault Refusal := perform (literal 37) s

/-- LL.LIT38 (R221). -/
def execLlLit38 (s : State) : Host.Outcome State Fault Refusal := perform (literal 38) s

/-- LL.LIT39 (R221). -/
def execLlLit39 (s : State) : Host.Outcome State Fault Refusal := perform (literal 39) s

/-- LL.LIT40 (R221). -/
def execLlLit40 (s : State) : Host.Outcome State Fault Refusal := perform (literal 40) s

/-- LL.LIT41 (R221). -/
def execLlLit41 (s : State) : Host.Outcome State Fault Refusal := perform (literal 41) s

/-- LL.LIT42 (R221). -/
def execLlLit42 (s : State) : Host.Outcome State Fault Refusal := perform (literal 42) s

/-- LL.LIT43 (R221). -/
def execLlLit43 (s : State) : Host.Outcome State Fault Refusal := perform (literal 43) s

/-- LL.LIT44 (R221). -/
def execLlLit44 (s : State) : Host.Outcome State Fault Refusal := perform (literal 44) s

/-- LL.LIT45 (R221). -/
def execLlLit45 (s : State) : Host.Outcome State Fault Refusal := perform (literal 45) s

/-- LL.LIT46 (R221). -/
def execLlLit46 (s : State) : Host.Outcome State Fault Refusal := perform (literal 46) s

/-- LL.LIT47 (R221). -/
def execLlLit47 (s : State) : Host.Outcome State Fault Refusal := perform (literal 47) s

/-- LL.LIT48 (R221). -/
def execLlLit48 (s : State) : Host.Outcome State Fault Refusal := perform (literal 48) s

/-- LL.LIT49 (R221). -/
def execLlLit49 (s : State) : Host.Outcome State Fault Refusal := perform (literal 49) s

/-- LL.LIT50 (R221). -/
def execLlLit50 (s : State) : Host.Outcome State Fault Refusal := perform (literal 50) s

/-- LL.LIT51 (R221). -/
def execLlLit51 (s : State) : Host.Outcome State Fault Refusal := perform (literal 51) s

/-- LL.LIT52 (R221). -/
def execLlLit52 (s : State) : Host.Outcome State Fault Refusal := perform (literal 52) s

/-- LL.LIT53 (R221). -/
def execLlLit53 (s : State) : Host.Outcome State Fault Refusal := perform (literal 53) s

/-- LL.LIT54 (R221). -/
def execLlLit54 (s : State) : Host.Outcome State Fault Refusal := perform (literal 54) s

/-- LL.LIT55 (R221). -/
def execLlLit55 (s : State) : Host.Outcome State Fault Refusal := perform (literal 55) s

/-- LL.LIT56 (R221). -/
def execLlLit56 (s : State) : Host.Outcome State Fault Refusal := perform (literal 56) s

/-- LL.LIT57 (R221). -/
def execLlLit57 (s : State) : Host.Outcome State Fault Refusal := perform (literal 57) s

/-- LL.LIT58 (R221). -/
def execLlLit58 (s : State) : Host.Outcome State Fault Refusal := perform (literal 58) s

/-- LL.LIT59 (R221). -/
def execLlLit59 (s : State) : Host.Outcome State Fault Refusal := perform (literal 59) s

/-- LL.LIT60 (R221). -/
def execLlLit60 (s : State) : Host.Outcome State Fault Refusal := perform (literal 60) s

/-- LL.LIT61 (R221). -/
def execLlLit61 (s : State) : Host.Outcome State Fault Refusal := perform (literal 61) s

/-- LL.LIT62 (R221). -/
def execLlLit62 (s : State) : Host.Outcome State Fault Refusal := perform (literal 62) s

/-- LL.LIT63 (R221). -/
def execLlLit63 (s : State) : Host.Outcome State Fault Refusal := perform (literal 63) s

/-- LL.LIT64 (R221). -/
def execLlLit64 (s : State) : Host.Outcome State Fault Refusal := perform (literal 64) s

/-- LL.LIT65 (R221). -/
def execLlLit65 (s : State) : Host.Outcome State Fault Refusal := perform (literal 65) s

/-- LL.LIT66 (R221). -/
def execLlLit66 (s : State) : Host.Outcome State Fault Refusal := perform (literal 66) s

/-- LL.LIT67 (R221). -/
def execLlLit67 (s : State) : Host.Outcome State Fault Refusal := perform (literal 67) s

/-- LL.LIT68 (R221). -/
def execLlLit68 (s : State) : Host.Outcome State Fault Refusal := perform (literal 68) s

/-- LL.LIT69 (R221). -/
def execLlLit69 (s : State) : Host.Outcome State Fault Refusal := perform (literal 69) s

/-- LL.LIT70 (R221). -/
def execLlLit70 (s : State) : Host.Outcome State Fault Refusal := perform (literal 70) s

/-- LL.LIT71 (R221). -/
def execLlLit71 (s : State) : Host.Outcome State Fault Refusal := perform (literal 71) s

/-- LL.LIT72 (R221). -/
def execLlLit72 (s : State) : Host.Outcome State Fault Refusal := perform (literal 72) s

/-- LL.LIT73 (R221). -/
def execLlLit73 (s : State) : Host.Outcome State Fault Refusal := perform (literal 73) s

/-- LL.LIT74 (R221). -/
def execLlLit74 (s : State) : Host.Outcome State Fault Refusal := perform (literal 74) s

/-- LL.LIT75 (R221). -/
def execLlLit75 (s : State) : Host.Outcome State Fault Refusal := perform (literal 75) s

/-- LL.LIT76 (R221). -/
def execLlLit76 (s : State) : Host.Outcome State Fault Refusal := perform (literal 76) s

/-- LL.LIT77 (R221). -/
def execLlLit77 (s : State) : Host.Outcome State Fault Refusal := perform (literal 77) s

/-- LL.LIT78 (R221). -/
def execLlLit78 (s : State) : Host.Outcome State Fault Refusal := perform (literal 78) s

/-- LL.LIT79 (R221). -/
def execLlLit79 (s : State) : Host.Outcome State Fault Refusal := perform (literal 79) s

/-- LL.LIT80 (R221). -/
def execLlLit80 (s : State) : Host.Outcome State Fault Refusal := perform (literal 80) s

/-- LL.LIT81 (R221). -/
def execLlLit81 (s : State) : Host.Outcome State Fault Refusal := perform (literal 81) s

/-- LL.LIT82 (R221). -/
def execLlLit82 (s : State) : Host.Outcome State Fault Refusal := perform (literal 82) s

/-- LL.LIT83 (R221). -/
def execLlLit83 (s : State) : Host.Outcome State Fault Refusal := perform (literal 83) s

/-- LL.LIT84 (R221). -/
def execLlLit84 (s : State) : Host.Outcome State Fault Refusal := perform (literal 84) s

/-- LL.LIT85 (R221). -/
def execLlLit85 (s : State) : Host.Outcome State Fault Refusal := perform (literal 85) s

/-- LL.LIT86 (R221). -/
def execLlLit86 (s : State) : Host.Outcome State Fault Refusal := perform (literal 86) s

/-- LL.LIT87 (R221). -/
def execLlLit87 (s : State) : Host.Outcome State Fault Refusal := perform (literal 87) s

/-- LL.LIT88 (R221). -/
def execLlLit88 (s : State) : Host.Outcome State Fault Refusal := perform (literal 88) s

/-- LL.LIT89 (R221). -/
def execLlLit89 (s : State) : Host.Outcome State Fault Refusal := perform (literal 89) s

/-- LL.LIT90 (R221). -/
def execLlLit90 (s : State) : Host.Outcome State Fault Refusal := perform (literal 90) s

/-- LL.LIT91 (R221). -/
def execLlLit91 (s : State) : Host.Outcome State Fault Refusal := perform (literal 91) s

/-- LL.LIT92 (R221). -/
def execLlLit92 (s : State) : Host.Outcome State Fault Refusal := perform (literal 92) s

/-- LL.LIT93 (R221). -/
def execLlLit93 (s : State) : Host.Outcome State Fault Refusal := perform (literal 93) s

/-- LL.LIT94 (R221). -/
def execLlLit94 (s : State) : Host.Outcome State Fault Refusal := perform (literal 94) s

/-- LL.LIT95 (R221). -/
def execLlLit95 (s : State) : Host.Outcome State Fault Refusal := perform (literal 95) s

/-- LL.LIT96 (R221). -/
def execLlLit96 (s : State) : Host.Outcome State Fault Refusal := perform (literal 96) s

/-- LL.LIT97 (R221). -/
def execLlLit97 (s : State) : Host.Outcome State Fault Refusal := perform (literal 97) s

/-- LL.LIT98 (R221). -/
def execLlLit98 (s : State) : Host.Outcome State Fault Refusal := perform (literal 98) s

/-- LL.LIT99 (R221). -/
def execLlLit99 (s : State) : Host.Outcome State Fault Refusal := perform (literal 99) s

/-- LL.LIT100 (R221). -/
def execLlLit100 (s : State) : Host.Outcome State Fault Refusal := perform (literal 100) s

/-- LL.LIT101 (R221). -/
def execLlLit101 (s : State) : Host.Outcome State Fault Refusal := perform (literal 101) s

/-- LL.LIT102 (R221). -/
def execLlLit102 (s : State) : Host.Outcome State Fault Refusal := perform (literal 102) s

/-- LL.LIT103 (R221). -/
def execLlLit103 (s : State) : Host.Outcome State Fault Refusal := perform (literal 103) s

/-- LL.LIT104 (R221). -/
def execLlLit104 (s : State) : Host.Outcome State Fault Refusal := perform (literal 104) s

/-- LL.LIT105 (R221). -/
def execLlLit105 (s : State) : Host.Outcome State Fault Refusal := perform (literal 105) s

/-- LL.LIT106 (R221). -/
def execLlLit106 (s : State) : Host.Outcome State Fault Refusal := perform (literal 106) s

/-- LL.LIT107 (R221). -/
def execLlLit107 (s : State) : Host.Outcome State Fault Refusal := perform (literal 107) s

/-- LL.LIT108 (R221). -/
def execLlLit108 (s : State) : Host.Outcome State Fault Refusal := perform (literal 108) s

/-- LL.LIT109 (R221). -/
def execLlLit109 (s : State) : Host.Outcome State Fault Refusal := perform (literal 109) s

/-- LL.LIT110 (R221). -/
def execLlLit110 (s : State) : Host.Outcome State Fault Refusal := perform (literal 110) s

/-- LL.LIT111 (R221). -/
def execLlLit111 (s : State) : Host.Outcome State Fault Refusal := perform (literal 111) s

/-- LL.LIT112 (R221). -/
def execLlLit112 (s : State) : Host.Outcome State Fault Refusal := perform (literal 112) s

/-- LL.LIT113 (R221). -/
def execLlLit113 (s : State) : Host.Outcome State Fault Refusal := perform (literal 113) s

/-- LL.LIT114 (R221). -/
def execLlLit114 (s : State) : Host.Outcome State Fault Refusal := perform (literal 114) s

/-- LL.LIT115 (R221). -/
def execLlLit115 (s : State) : Host.Outcome State Fault Refusal := perform (literal 115) s

/-- LL.LIT116 (R221). -/
def execLlLit116 (s : State) : Host.Outcome State Fault Refusal := perform (literal 116) s

/-- LL.LIT117 (R221). -/
def execLlLit117 (s : State) : Host.Outcome State Fault Refusal := perform (literal 117) s

/-- LL.LIT118 (R221). -/
def execLlLit118 (s : State) : Host.Outcome State Fault Refusal := perform (literal 118) s

/-- LL.LIT119 (R221). -/
def execLlLit119 (s : State) : Host.Outcome State Fault Refusal := perform (literal 119) s

/-- LL.LIT120 (R221). -/
def execLlLit120 (s : State) : Host.Outcome State Fault Refusal := perform (literal 120) s

/-- LL.LIT121 (R221). -/
def execLlLit121 (s : State) : Host.Outcome State Fault Refusal := perform (literal 121) s

/-- LL.LIT122 (R221). -/
def execLlLit122 (s : State) : Host.Outcome State Fault Refusal := perform (literal 122) s

/-- LL.LIT123 (R221). -/
def execLlLit123 (s : State) : Host.Outcome State Fault Refusal := perform (literal 123) s

/-- LL.LIT124 (R221). -/
def execLlLit124 (s : State) : Host.Outcome State Fault Refusal := perform (literal 124) s

/-- LL.LIT125 (R221). -/
def execLlLit125 (s : State) : Host.Outcome State Fault Refusal := perform (literal 125) s

/-- LL.LIT126 (R221). -/
def execLlLit126 (s : State) : Host.Outcome State Fault Refusal := perform (literal 126) s

/-- LL.LIT127 (R221). -/
def execLlLit127 (s : State) : Host.Outcome State Fault Refusal := perform (literal 127) s

/-- LL.LIT128 (R221). -/
def execLlLit128 (s : State) : Host.Outcome State Fault Refusal := perform (literal 128) s

/-- LL.LIT129 (R221). -/
def execLlLit129 (s : State) : Host.Outcome State Fault Refusal := perform (literal 129) s

/-- LL.LIT130 (R221). -/
def execLlLit130 (s : State) : Host.Outcome State Fault Refusal := perform (literal 130) s

/-- LL.LIT131 (R221). -/
def execLlLit131 (s : State) : Host.Outcome State Fault Refusal := perform (literal 131) s

/-- LL.LIT132 (R221). -/
def execLlLit132 (s : State) : Host.Outcome State Fault Refusal := perform (literal 132) s

/-- LL.LIT133 (R221). -/
def execLlLit133 (s : State) : Host.Outcome State Fault Refusal := perform (literal 133) s

/-- LL.LIT134 (R221). -/
def execLlLit134 (s : State) : Host.Outcome State Fault Refusal := perform (literal 134) s

/-- LL.LIT135 (R221). -/
def execLlLit135 (s : State) : Host.Outcome State Fault Refusal := perform (literal 135) s

/-- LL.LIT136 (R221). -/
def execLlLit136 (s : State) : Host.Outcome State Fault Refusal := perform (literal 136) s

/-- LL.LIT137 (R221). -/
def execLlLit137 (s : State) : Host.Outcome State Fault Refusal := perform (literal 137) s

/-- LL.LIT138 (R221). -/
def execLlLit138 (s : State) : Host.Outcome State Fault Refusal := perform (literal 138) s

/-- LL.LIT139 (R221). -/
def execLlLit139 (s : State) : Host.Outcome State Fault Refusal := perform (literal 139) s

/-- LL.LIT140 (R221). -/
def execLlLit140 (s : State) : Host.Outcome State Fault Refusal := perform (literal 140) s

/-- LL.LIT141 (R221). -/
def execLlLit141 (s : State) : Host.Outcome State Fault Refusal := perform (literal 141) s

/-- LL.LIT142 (R221). -/
def execLlLit142 (s : State) : Host.Outcome State Fault Refusal := perform (literal 142) s

/-- LL.LIT143 (R221). -/
def execLlLit143 (s : State) : Host.Outcome State Fault Refusal := perform (literal 143) s

/-- LL.LIT144 (R221). -/
def execLlLit144 (s : State) : Host.Outcome State Fault Refusal := perform (literal 144) s

/-- LL.LIT145 (R221). -/
def execLlLit145 (s : State) : Host.Outcome State Fault Refusal := perform (literal 145) s

/-- LL.LIT146 (R221). -/
def execLlLit146 (s : State) : Host.Outcome State Fault Refusal := perform (literal 146) s

/-- LL.LIT147 (R221). -/
def execLlLit147 (s : State) : Host.Outcome State Fault Refusal := perform (literal 147) s

/-- LL.LIT148 (R221). -/
def execLlLit148 (s : State) : Host.Outcome State Fault Refusal := perform (literal 148) s

/-- LL.LIT149 (R221). -/
def execLlLit149 (s : State) : Host.Outcome State Fault Refusal := perform (literal 149) s

/-- LL.LIT150 (R221). -/
def execLlLit150 (s : State) : Host.Outcome State Fault Refusal := perform (literal 150) s

/-- LL.LIT151 (R221). -/
def execLlLit151 (s : State) : Host.Outcome State Fault Refusal := perform (literal 151) s

/-- LL.LIT152 (R221). -/
def execLlLit152 (s : State) : Host.Outcome State Fault Refusal := perform (literal 152) s

/-- LL.LIT153 (R221). -/
def execLlLit153 (s : State) : Host.Outcome State Fault Refusal := perform (literal 153) s

/-- LL.LIT154 (R221). -/
def execLlLit154 (s : State) : Host.Outcome State Fault Refusal := perform (literal 154) s

/-- LL.LIT155 (R221). -/
def execLlLit155 (s : State) : Host.Outcome State Fault Refusal := perform (literal 155) s

/-- LL.LIT156 (R221). -/
def execLlLit156 (s : State) : Host.Outcome State Fault Refusal := perform (literal 156) s

/-- LL.LIT157 (R221). -/
def execLlLit157 (s : State) : Host.Outcome State Fault Refusal := perform (literal 157) s

/-- LL.LIT158 (R221). -/
def execLlLit158 (s : State) : Host.Outcome State Fault Refusal := perform (literal 158) s

/-- LL.LIT159 (R221). -/
def execLlLit159 (s : State) : Host.Outcome State Fault Refusal := perform (literal 159) s

/-- LL.LIT160 (R221). -/
def execLlLit160 (s : State) : Host.Outcome State Fault Refusal := perform (literal 160) s

/-- LL.LIT161 (R221). -/
def execLlLit161 (s : State) : Host.Outcome State Fault Refusal := perform (literal 161) s

/-- LL.LIT162 (R221). -/
def execLlLit162 (s : State) : Host.Outcome State Fault Refusal := perform (literal 162) s

/-- LL.LIT163 (R221). -/
def execLlLit163 (s : State) : Host.Outcome State Fault Refusal := perform (literal 163) s

/-- LL.LIT164 (R221). -/
def execLlLit164 (s : State) : Host.Outcome State Fault Refusal := perform (literal 164) s

/-- LL.LIT165 (R221). -/
def execLlLit165 (s : State) : Host.Outcome State Fault Refusal := perform (literal 165) s

/-- LL.LIT166 (R221). -/
def execLlLit166 (s : State) : Host.Outcome State Fault Refusal := perform (literal 166) s

/-- LL.LIT167 (R221). -/
def execLlLit167 (s : State) : Host.Outcome State Fault Refusal := perform (literal 167) s

/-- LL.LIT168 (R221). -/
def execLlLit168 (s : State) : Host.Outcome State Fault Refusal := perform (literal 168) s

/-- LL.LIT169 (R221). -/
def execLlLit169 (s : State) : Host.Outcome State Fault Refusal := perform (literal 169) s

/-- LL.LIT170 (R221). -/
def execLlLit170 (s : State) : Host.Outcome State Fault Refusal := perform (literal 170) s

/-- LL.LIT171 (R221). -/
def execLlLit171 (s : State) : Host.Outcome State Fault Refusal := perform (literal 171) s

/-- LL.LIT172 (R221). -/
def execLlLit172 (s : State) : Host.Outcome State Fault Refusal := perform (literal 172) s

/-- LL.LIT173 (R221). -/
def execLlLit173 (s : State) : Host.Outcome State Fault Refusal := perform (literal 173) s

/-- LL.LIT174 (R221). -/
def execLlLit174 (s : State) : Host.Outcome State Fault Refusal := perform (literal 174) s

/-- LL.LIT175 (R221). -/
def execLlLit175 (s : State) : Host.Outcome State Fault Refusal := perform (literal 175) s

/-- LL.LIT176 (R221). -/
def execLlLit176 (s : State) : Host.Outcome State Fault Refusal := perform (literal 176) s

/-- LL.LIT177 (R221). -/
def execLlLit177 (s : State) : Host.Outcome State Fault Refusal := perform (literal 177) s

/-- LL.LIT178 (R221). -/
def execLlLit178 (s : State) : Host.Outcome State Fault Refusal := perform (literal 178) s

/-- LL.LIT179 (R221). -/
def execLlLit179 (s : State) : Host.Outcome State Fault Refusal := perform (literal 179) s

/-- LL.LIT180 (R221). -/
def execLlLit180 (s : State) : Host.Outcome State Fault Refusal := perform (literal 180) s

/-- LL.LIT181 (R221). -/
def execLlLit181 (s : State) : Host.Outcome State Fault Refusal := perform (literal 181) s

/-- LL.LIT182 (R221). -/
def execLlLit182 (s : State) : Host.Outcome State Fault Refusal := perform (literal 182) s

/-- LL.LIT183 (R221). -/
def execLlLit183 (s : State) : Host.Outcome State Fault Refusal := perform (literal 183) s

/-- LL.LIT184 (R221). -/
def execLlLit184 (s : State) : Host.Outcome State Fault Refusal := perform (literal 184) s

/-- LL.LIT185 (R221). -/
def execLlLit185 (s : State) : Host.Outcome State Fault Refusal := perform (literal 185) s

/-- LL.LIT186 (R221). -/
def execLlLit186 (s : State) : Host.Outcome State Fault Refusal := perform (literal 186) s

/-- LL.LIT187 (R221). -/
def execLlLit187 (s : State) : Host.Outcome State Fault Refusal := perform (literal 187) s

/-- LL.LIT188 (R221). -/
def execLlLit188 (s : State) : Host.Outcome State Fault Refusal := perform (literal 188) s

/-- LL.LIT189 (R221). -/
def execLlLit189 (s : State) : Host.Outcome State Fault Refusal := perform (literal 189) s

/-- LL.LIT190 (R221). -/
def execLlLit190 (s : State) : Host.Outcome State Fault Refusal := perform (literal 190) s

/-- LL.LIT191 (R221). -/
def execLlLit191 (s : State) : Host.Outcome State Fault Refusal := perform (literal 191) s

/-- LL.LIT192 (R221). -/
def execLlLit192 (s : State) : Host.Outcome State Fault Refusal := perform (literal 192) s

/-- LL.LIT193 (R221). -/
def execLlLit193 (s : State) : Host.Outcome State Fault Refusal := perform (literal 193) s

/-- LL.LIT194 (R221). -/
def execLlLit194 (s : State) : Host.Outcome State Fault Refusal := perform (literal 194) s

/-- LL.LIT195 (R221). -/
def execLlLit195 (s : State) : Host.Outcome State Fault Refusal := perform (literal 195) s

/-- LL.LIT196 (R221). -/
def execLlLit196 (s : State) : Host.Outcome State Fault Refusal := perform (literal 196) s

/-- LL.LIT197 (R221). -/
def execLlLit197 (s : State) : Host.Outcome State Fault Refusal := perform (literal 197) s

/-- LL.LIT198 (R221). -/
def execLlLit198 (s : State) : Host.Outcome State Fault Refusal := perform (literal 198) s

/-- LL.LIT199 (R221). -/
def execLlLit199 (s : State) : Host.Outcome State Fault Refusal := perform (literal 199) s

/-- LL.LIT200 (R221). -/
def execLlLit200 (s : State) : Host.Outcome State Fault Refusal := perform (literal 200) s

/-- LL.LIT201 (R221). -/
def execLlLit201 (s : State) : Host.Outcome State Fault Refusal := perform (literal 201) s

/-- LL.LIT202 (R221). -/
def execLlLit202 (s : State) : Host.Outcome State Fault Refusal := perform (literal 202) s

/-- LL.LIT203 (R221). -/
def execLlLit203 (s : State) : Host.Outcome State Fault Refusal := perform (literal 203) s

/-- LL.LIT204 (R221). -/
def execLlLit204 (s : State) : Host.Outcome State Fault Refusal := perform (literal 204) s

/-- LL.LIT205 (R221). -/
def execLlLit205 (s : State) : Host.Outcome State Fault Refusal := perform (literal 205) s

/-- LL.LIT206 (R221). -/
def execLlLit206 (s : State) : Host.Outcome State Fault Refusal := perform (literal 206) s

/-- LL.LIT207 (R221). -/
def execLlLit207 (s : State) : Host.Outcome State Fault Refusal := perform (literal 207) s

/-- LL.LIT208 (R221). -/
def execLlLit208 (s : State) : Host.Outcome State Fault Refusal := perform (literal 208) s

/-- LL.LIT209 (R221). -/
def execLlLit209 (s : State) : Host.Outcome State Fault Refusal := perform (literal 209) s

/-- LL.LIT210 (R221). -/
def execLlLit210 (s : State) : Host.Outcome State Fault Refusal := perform (literal 210) s

/-- LL.LIT211 (R221). -/
def execLlLit211 (s : State) : Host.Outcome State Fault Refusal := perform (literal 211) s

/-- LL.LIT212 (R221). -/
def execLlLit212 (s : State) : Host.Outcome State Fault Refusal := perform (literal 212) s

/-- LL.LIT213 (R221). -/
def execLlLit213 (s : State) : Host.Outcome State Fault Refusal := perform (literal 213) s

/-- LL.LIT214 (R221). -/
def execLlLit214 (s : State) : Host.Outcome State Fault Refusal := perform (literal 214) s

/-- LL.LIT215 (R221). -/
def execLlLit215 (s : State) : Host.Outcome State Fault Refusal := perform (literal 215) s

/-- LL.LIT216 (R221). -/
def execLlLit216 (s : State) : Host.Outcome State Fault Refusal := perform (literal 216) s

/-- LL.LIT217 (R221). -/
def execLlLit217 (s : State) : Host.Outcome State Fault Refusal := perform (literal 217) s

/-- LL.LIT218 (R221). -/
def execLlLit218 (s : State) : Host.Outcome State Fault Refusal := perform (literal 218) s

/-- LL.LIT219 (R221). -/
def execLlLit219 (s : State) : Host.Outcome State Fault Refusal := perform (literal 219) s

/-- LL.LIT220 (R221). -/
def execLlLit220 (s : State) : Host.Outcome State Fault Refusal := perform (literal 220) s

/-- LL.LIT221 (R221). -/
def execLlLit221 (s : State) : Host.Outcome State Fault Refusal := perform (literal 221) s

/-- LL.LIT222 (R221). -/
def execLlLit222 (s : State) : Host.Outcome State Fault Refusal := perform (literal 222) s

/-- LL.LIT223 (R221). -/
def execLlLit223 (s : State) : Host.Outcome State Fault Refusal := perform (literal 223) s

/-- LL.LIT224 (R221). -/
def execLlLit224 (s : State) : Host.Outcome State Fault Refusal := perform (literal 224) s

/-- LL.LIT225 (R221). -/
def execLlLit225 (s : State) : Host.Outcome State Fault Refusal := perform (literal 225) s

/-- LL.LIT226 (R221). -/
def execLlLit226 (s : State) : Host.Outcome State Fault Refusal := perform (literal 226) s

/-- LL.LIT227 (R221). -/
def execLlLit227 (s : State) : Host.Outcome State Fault Refusal := perform (literal 227) s

/-- LL.LIT228 (R221). -/
def execLlLit228 (s : State) : Host.Outcome State Fault Refusal := perform (literal 228) s

/-- LL.LIT229 (R221). -/
def execLlLit229 (s : State) : Host.Outcome State Fault Refusal := perform (literal 229) s

/-- LL.LIT230 (R221). -/
def execLlLit230 (s : State) : Host.Outcome State Fault Refusal := perform (literal 230) s

/-- LL.LIT231 (R221). -/
def execLlLit231 (s : State) : Host.Outcome State Fault Refusal := perform (literal 231) s

/-- LL.LIT232 (R221). -/
def execLlLit232 (s : State) : Host.Outcome State Fault Refusal := perform (literal 232) s

/-- LL.LIT233 (R221). -/
def execLlLit233 (s : State) : Host.Outcome State Fault Refusal := perform (literal 233) s

/-- LL.LIT234 (R221). -/
def execLlLit234 (s : State) : Host.Outcome State Fault Refusal := perform (literal 234) s

/-- LL.LIT235 (R221). -/
def execLlLit235 (s : State) : Host.Outcome State Fault Refusal := perform (literal 235) s

/-- LL.LIT236 (R221). -/
def execLlLit236 (s : State) : Host.Outcome State Fault Refusal := perform (literal 236) s

/-- LL.LIT237 (R221). -/
def execLlLit237 (s : State) : Host.Outcome State Fault Refusal := perform (literal 237) s

/-- LL.LIT238 (R221). -/
def execLlLit238 (s : State) : Host.Outcome State Fault Refusal := perform (literal 238) s

/-- LL.LIT239 (R221). -/
def execLlLit239 (s : State) : Host.Outcome State Fault Refusal := perform (literal 239) s

/-- LL.LIT240 (R221). -/
def execLlLit240 (s : State) : Host.Outcome State Fault Refusal := perform (literal 240) s

/-- LL.LIT241 (R221). -/
def execLlLit241 (s : State) : Host.Outcome State Fault Refusal := perform (literal 241) s

/-- LL.LIT242 (R221). -/
def execLlLit242 (s : State) : Host.Outcome State Fault Refusal := perform (literal 242) s

/-- LL.LIT243 (R221). -/
def execLlLit243 (s : State) : Host.Outcome State Fault Refusal := perform (literal 243) s

/-- LL.LIT244 (R221). -/
def execLlLit244 (s : State) : Host.Outcome State Fault Refusal := perform (literal 244) s

/-- LL.LIT245 (R221). -/
def execLlLit245 (s : State) : Host.Outcome State Fault Refusal := perform (literal 245) s

/-- LL.LIT246 (R221). -/
def execLlLit246 (s : State) : Host.Outcome State Fault Refusal := perform (literal 246) s

/-- LL.LIT247 (R221). -/
def execLlLit247 (s : State) : Host.Outcome State Fault Refusal := perform (literal 247) s

/-- LL.LIT248 (R221). -/
def execLlLit248 (s : State) : Host.Outcome State Fault Refusal := perform (literal 248) s

/-- LL.LIT249 (R221). -/
def execLlLit249 (s : State) : Host.Outcome State Fault Refusal := perform (literal 249) s

/-- LL.LIT250 (R221). -/
def execLlLit250 (s : State) : Host.Outcome State Fault Refusal := perform (literal 250) s

/-- LL.LIT251 (R221). -/
def execLlLit251 (s : State) : Host.Outcome State Fault Refusal := perform (literal 251) s

/-- LL.LIT252 (R221). -/
def execLlLit252 (s : State) : Host.Outcome State Fault Refusal := perform (literal 252) s

/-- LL.LIT253 (R221). -/
def execLlLit253 (s : State) : Host.Outcome State Fault Refusal := perform (literal 253) s

/-- LL.LIT254 (R221). -/
def execLlLit254 (s : State) : Host.Outcome State Fault Refusal := perform (literal 254) s

/-- LL.LIT255 (R221). -/
def execLlLit255 (s : State) : Host.Outcome State Fault Refusal := perform (literal 255) s

end Sys2Proof.Machine
end

