-- ==== Sys2Proof/Machine/Dynamic.lean ====
section
/-! DEFINITION. Machine/Dynamic.lean: the dynamic-Huffman block decoder (44_dynamic.md): the header fields, the
code-length symbols, CLSEQ, and the statements of BLK.DYNAMIC between them. -/

namespace Sys2Proof.Machine

/-! ### Header fields -/

/-- DH.HLIT (R191). -/
def readHlit : M Unit := do
  let raw ← rbLsb 5
  modify fun s => { s with hlit := hlitOf raw }

/-- DH.HDIST (R192). -/
def readHdist : M Unit := do
  let raw ← rbLsb 5
  modify fun s => { s with hdist := hdistOf raw }

/-- DH.HCLEN (R193). -/
def readHclen : M Unit := do
  let raw ← rbLsb 4
  modify fun s => { s with hclen := hclenOf raw }

/-- `CLCL[ORDER[i]] <- RB.LSB(3)` for the listed places of the order (R194). -/
def readClclEntries : List Nat → M Unit
  | [] => pure ()
  | place :: places => do
    let l ← rbLsb 3
    modify fun s => { s with clcl := s.clcl.set place l }
    readClclEntries places

/-- DH.CLCL (R194): all 19 entries are set to 0, then `HCLEN` of them are read in ORDER's order. -/
def readClcl : M Unit := do
  modify fun s => { s with clcl := List.replicate clSize 0 }
  let s ← get
  readClclEntries (codeLengthOrder.take s.hclen)

/-! ### Code-length symbols -/

/-- A length emitted `n` times (R196: `repeat REP times`). -/
def State.emitLengths (s : State) (v : Nat) : Nat → State
  | 0 => s
  | n + 1 => (s.emitLength v).emitLengths v n

/-- A run of `REP` copies of a length, tested against the end of the sequence before any entry is
written (R202). -/
def emitRun (v : Nat) : M Unit := do
  let s ← get
  if s.runOverflows then raise .codeLengthRunOverflow else set (s.emitLengths v s.rep)

/-- CL.LEN0 to CL.LEN15 (R197). -/
def literalLength (sym : Nat) : M Unit := modify fun s => s.emitLength sym

/-- CL.REP16 (R198): the fault of a sequence with no entry yet comes before the extra bits. -/
def repeatPrevious : M Unit := do
  let s ← get
  if s.cli = 0 then
    raise .codeLengthRepeatWithoutPrevious
  else
    let raw ← rbLsb 2
    modify fun s => { s with rep := rep16Of raw }
    emitRun (s.seqEntry (s.cli - 1))

/-- CL.ZERO17 (R199). -/
def repeatZero17 : M Unit := do
  let raw ← rbLsb 3
  modify fun s => { s with rep := zero17Of raw }
  emitRun 0

/-- CL.ZERO18 (R200). -/
def repeatZero18 : M Unit := do
  let raw ← rbLsb 7
  modify fun s => { s with rep := zero18Of raw }
  emitRun 0

/-- A code-length symbol by its class, as the pseudocode of R196 branches. -/
def codeLengthSymbol (sym : Nat) : M Unit :=
  if sym ≤ 15 then literalLength sym
  else if sym = 16 then repeatPrevious
  else if sym = 17 then repeatZero17
  else repeatZero18

/-! ### CLSEQ -/

/-- `CLI <- 0` at the start of a sequence (R196, R201), and the table it fills. -/
def State.beginSequence (s : State) (t : SeqTable) : State := { s with seqTable := t, cli := 0 }

/-- The loop of CLSEQ (R196) while lengths are missing, at most `fuel` rounds; every round emits at least
one length. -/
def clseqLoop : Nat → M Unit
  | 0 => do
    let s ← get
    if s.seqLen s.seqTable ≤ s.cli then pure () else throw (.stuck .loopWithoutProgress)
  | fuel + 1 => do
    let s ← get
    if s.seqLen s.seqTable ≤ s.cli then
      pure ()
    else
      let sym ← htDecode .clt
      modify fun s => { s with clsym := sym }
      codeLengthSymbol sym
      clseqLoop fuel

/-- CLSEQ(n) into the table that waits for `n` lengths (R196). -/
def clseqAll (t : SeqTable) : M Unit := do
  modify fun s => s.beginSequence t
  let s ← get
  clseqLoop (s.seqLen t)

/-! ### Between the elements of BLK.DYNAMIC -/

/-- `LLCL[HLIT .. 287] <- 0` (R203). -/
def State.clearUnusedLengths (s : State) : State :=
  { s with llcl := s.llcl.take s.hlit ++ List.replicate (llSize - s.hlit) 0 }

/-- Both trees, `LLT` first, then `DT_PRESENT <- 1` (R204). -/
def buildBlockTrees : M Unit := do
  htBuild .llt
  htBuild .dt
  modify fun s => { s with dtPresent := true }

/-! ### The meanings -/

/-- BLK.DYNAMIC: a header with `BTYPE = 2` (R190, 46_decode_loop.md R262, R263): the block decoder is
entered, and its elements follow. -/
def execBlkDynamic (bfinal : Bool) (s : State) : Host.Outcome State Fault Refusal :=
  perform (modify fun s => { s.enterBlock bfinal 2 with phase := .hlit }) s

/-- DH.HLIT (R191). -/
def execDhHlit (s : State) : Host.Outcome State Fault Refusal :=
  perform (do
    readHlit
    modify fun s => { s with phase := .hdist }) s

/-- DH.HDIST (R192). -/
def execDhHdist (s : State) : Host.Outcome State Fault Refusal :=
  perform (do
    readHdist
    modify fun s => { s with phase := .hclen }) s

/-- DH.HCLEN (R193). -/
def execDhHclen (s : State) : Host.Outcome State Fault Refusal :=
  perform (do
    readHclen
    modify fun s => { s with phase := .clcl }) s

/-- DH.CLCL (R194); the build of `CLT` (R195) follows in the same step. -/
def execDhClcl (s : State) : Host.Outcome State Fault Refusal :=
  perform (do
    readClcl
    modify fun s => { s with phase := .buildClt }) s

/-- CL.LEN0 (R197). -/
def execClLen0 (s : State) : Host.Outcome State Fault Refusal := perform (literalLength 0) s

/-- CL.LEN1 (R197). -/
def execClLen1 (s : State) : Host.Outcome State Fault Refusal := perform (literalLength 1) s

/-- CL.LEN2 (R197). -/
def execClLen2 (s : State) : Host.Outcome State Fault Refusal := perform (literalLength 2) s

/-- CL.LEN3 (R197). -/
def execClLen3 (s : State) : Host.Outcome State Fault Refusal := perform (literalLength 3) s

/-- CL.LEN4 (R197). -/
def execClLen4 (s : State) : Host.Outcome State Fault Refusal := perform (literalLength 4) s

/-- CL.LEN5 (R197). -/
def execClLen5 (s : State) : Host.Outcome State Fault Refusal := perform (literalLength 5) s

/-- CL.LEN6 (R197). -/
def execClLen6 (s : State) : Host.Outcome State Fault Refusal := perform (literalLength 6) s

/-- CL.LEN7 (R197). -/
def execClLen7 (s : State) : Host.Outcome State Fault Refusal := perform (literalLength 7) s

/-- CL.LEN8 (R197). -/
def execClLen8 (s : State) : Host.Outcome State Fault Refusal := perform (literalLength 8) s

/-- CL.LEN9 (R197). -/
def execClLen9 (s : State) : Host.Outcome State Fault Refusal := perform (literalLength 9) s

/-- CL.LEN10 (R197). -/
def execClLen10 (s : State) : Host.Outcome State Fault Refusal := perform (literalLength 10) s

/-- CL.LEN11 (R197). -/
def execClLen11 (s : State) : Host.Outcome State Fault Refusal := perform (literalLength 11) s

/-- CL.LEN12 (R197). -/
def execClLen12 (s : State) : Host.Outcome State Fault Refusal := perform (literalLength 12) s

/-- CL.LEN13 (R197). -/
def execClLen13 (s : State) : Host.Outcome State Fault Refusal := perform (literalLength 13) s

/-- CL.LEN14 (R197). -/
def execClLen14 (s : State) : Host.Outcome State Fault Refusal := perform (literalLength 14) s

/-- CL.LEN15 (R197). -/
def execClLen15 (s : State) : Host.Outcome State Fault Refusal := perform (literalLength 15) s

/-- CL.REP16 (R198). -/
def execClRep16 (s : State) : Host.Outcome State Fault Refusal := perform repeatPrevious s

/-- CL.ZERO17 (R199). -/
def execClZero17 (s : State) : Host.Outcome State Fault Refusal := perform repeatZero17 s

/-- CL.ZERO18 (R200). -/
def execClZero18 (s : State) : Host.Outcome State Fault Refusal := perform repeatZero18 s

/-- CLSEQ run in one piece (R196), into the table its operand names. -/
def execClseq (t : SeqTable) (s : State) : Host.Outcome State Fault Refusal := perform (clseqAll t) s

end Sys2Proof.Machine
end

