-- ==== Sys2Proof/Machine/Fixed.lean ====
section
/-! DEFINITION. Machine/Fixed.lean: the fixed-Huffman block decoder (43_fixed.md), row BLK.FIXED. -/

namespace Sys2Proof.Machine

/-- BLK.FIXED up to EXPAND (R181): `LLCL <- FIXED_LL`, `LLT` is built, `DT_PRESENT <- 0`. -/
def fixedSetup : M Unit := do
  modify fun s => { s with llcl := fixedLengths }
  htBuild .llt
  modify fun s => { s with dtPresent := false }

/-- BLK.FIXED: a header with `BTYPE = 1` (R181, 46_decode_loop.md R262, R263): the tree is built and the
expander entered, whose elements follow. -/
def execBlkFixed (bfinal : Bool) (s : State) : Host.Outcome State Fault Refusal :=
  perform (do
    modify fun s => s.enterBlock bfinal 1
    fixedSetup
    modify fun s => { s with phase := .expand }) s

end Sys2Proof.Machine
end

