-- ==== Sys2Proof/Machine/Stored.lean ====
section
/-! DEFINITION. Machine/Stored.lean: the stored block decoder (42_stored.md), as the two stream elements the
table gives it: the header row BLK.STORED and the body row ST.HDR. -/

namespace Sys2Proof.Machine

/-- The stored body, PAD, LEN, NLEN and DATA (R170), its checks in the order of R171. -/
def storedBody : M Unit := do
  rbAlign
  let len ← rbLsb 16
  modify fun s => { s with len := BitVec.ofNat 16 len }
  let nlen ← rbLsb 16
  modify fun s => { s with nlen := BitVec.ofNat 16 nlen }
  let s ← get
  if s.storedCheck then
    let data ← rbBytes s.len.toNat
    modify fun s => s.appendAll data
  else
    raise .storedBlockLengthMismatch

/-- BLK.STORED: a header with `BTYPE = 0` (30_encoding.md R91, 46_decode_loop.md R262, R263): the block
decoder is entered, and its body is the next element. -/
def execBlkStored (bfinal : Bool) (s : State) : Host.Outcome State Fault Refusal :=
  perform (modify fun s => { s.enterBlock bfinal 0 with phase := .storedBody }) s

/-- ST.HDR: the stored body (42_stored.md R170 to R172, 30_encoding.md R92); the block decoder returns. -/
def execStHdr (s : State) : Host.Outcome State Fault Refusal :=
  perform (do
    storedBody
    modify fun s => { s with phase := .returned }) s

end Sys2Proof.Machine
end

