-- ==== Sys2Proof/Machine/Loop.lean ====
section
/-! DEFINITION. Machine/Loop.lean: the decode loop and the host interface (46_decode_loop.md): the row
BLK.RESERVED, the operations BLK.HDR, LAUNCH and RESULT, and the whole run in one piece (R270). -/

namespace Sys2Proof.Machine

/-- `BFINAL <- RB.BIT()`, then `BTYPE <- RB.LSB(2)` (R262), as the header number of format BH
(30_encoding.md R110): `BFINAL + 2*BTYPE`. -/
def readHeader : M Nat := do
  let bfinal ← rbBit
  let btype ← rbLsb 2
  return bfinal + 2 * btype

/-- BLK.DYNAMIC in one piece (44_dynamic.md R190). -/
def dynamicBlock : M Unit := do
  readHlit
  readHdist
  readHclen
  readClcl
  htBuild .clt
  clseqAll .ll
  modify fun s => s.clearUnusedLengths
  clseqAll .d
  buildBlockTrees
  expandAll

/-- BLK.FIXED in one piece (43_fixed.md R181). -/
def fixedBlock : M Unit := do
  fixedSetup
  expandAll

/-- Dispatch by `BTYPE` (R263), each block decoder in one piece. -/
def dispatchBlock (btype : Nat) : M Unit :=
  match btype with
  | 0 => storedBody
  | 1 => fixedBlock
  | 2 => dynamicBlock
  | _ => raise .reservedBlockType

/-- One iteration of the loop of R270: the header, the block in one piece, and R265. -/
def oneBlock : M Unit := do
  modify fun s => { s with fsm := .readingHeader }
  let header ← readHeader
  modify fun s => s.enterBlock (header % 2 == 1) (header / 2)
  dispatchBlock (header / 2)
  modify fun s => s.leaveBlock

/-- The loop of R270, at most `fuel` blocks; each consumes at least its header. -/
def blocksLoop : Nat → M Unit
  | 0 => throw (.stuck .loopWithoutProgress)
  | fuel + 1 => do
    oneBlock
    let s ← get
    if s.fsm = .done then pure () else blocksLoop fuel

/-- DECODE(compressed) in one piece (R270), with the fuel of 70_reset_and_hazards.md R322. -/
def wholeRun (s : State) (compressed : List Byte) : Host.Outcome State Fault Refusal :=
  perform (blocksLoop (8 * compressed.length + 1)) (s.launch compressed)

/-- What the host receives (R266, 10_state.md R42): nothing during a run. -/
def State.hostResult (s : State) : Option RunResult :=
  match s.fsm with
  | .done => some (.ok s.outBytes)
  | .fault => some (.err s.err)
  | _ => Option.none

/-! ### The meanings -/

/-- BLK.RESERVED: a header with `BTYPE = 3` (R264) raises ReservedBlockType, nothing more is read. -/
def execBlkReserved (bfinal : Bool) (s : State) : Host.Outcome State Fault Refusal :=
  perform (do
    modify fun s => s.enterBlock bfinal 3
    raise .reservedBlockType) s

/-- BLK.HDR: one iteration of the decode loop in one piece (R262, R263, R265). -/
def execBlkHdr (s : State) : Host.Outcome State Fault Refusal := perform oneBlock s

/-- LAUNCH (R260): the launch state of the run; the loop of R270 is what the steps after it do. -/
def execLaunch (bytes : List Byte) (s : State) : Host.Outcome State Fault Refusal :=
  perform (modify fun s => s.launch bytes) s

/-- RESULT (R266): the outcome of a finished run goes to the host; FSM and every other item stay. -/
def execResult (s : State) : Host.Outcome State Fault Refusal :=
  perform (modify fun s => { s with result := s.hostResult }) s

end Sys2Proof.Machine
end

