-- ==== Sys2Proof/Decode.lean ====
section
/-! DEFINITION. Decode.lean: from a fetched element word to an instruction, and back.

The key of the table is 30_encoding.md R110: each format has a space of its own in which `match` and
`mask` are read (the header number, the decoded symbol, the distance code, the operation number). A word
is therefore a format and a number of that format's space. The places of the operands of an internal
operation are the model's own (log 8): the spec numbers the operations only (decision D18). -/

namespace Sys2Proof

/-- The formats of spec/opcode_table.json (30_encoding.md R110). -/
inductive Format where
  | bh
  | st
  | dh
  | cll
  | cl
  | ll
  | d
  | op
  deriving DecidableEq, Repr

/-- One fetched element: its format and its number in that format's space.

`bh`: `BFINAL + 2*BTYPE`. `st`, `cll`: 0. `dh`: the field's bit offset in the dynamic header, 0, 5 or 10
(R94). `cl`, `ll`: the decoded symbol. `d`: the distance code. `op`: the operation number plus 256 times
the operand. -/
structure ElementWord where
  format : Format
  bits   : Nat
  deriving DecidableEq, Repr

/-- Why a word is no instruction. -/
inductive DecodeError where
  /-- BH: more than three header bits. -/
  | noSuchHeader
  /-- ST, CLL: these formats have one row each and no selecting bits. -/
  | noSuchGroup
  /-- DH: no header count stands at this bit offset. -/
  | noSuchField
  /-- CL: a symbol above 18. -/
  | noSuchCodeLengthSymbol
  /-- LL: a symbol above 287. -/
  | noSuchLiteralLengthSymbol
  /-- D: a code above 31. -/
  | noSuchDistanceCode
  /-- OP: an operation number above 12. -/
  | noSuchOperation
  /-- OP: HT.BUILD or HT.DECODE of a tree that is not CLT, LLT or DT. -/
  | noSuchTree
  /-- OP: CLSEQ into a table that is not LLCL or DCL. -/
  | noSuchTable
  /-- OP: RB.BYTES with a count above 65535. -/
  | byteCountTooLarge
  /-- OP: operand bits on an operation without operands. -/
  | strayOperand
  deriving DecidableEq, Repr

/-- The operand number of a tree (model's own, log 8). -/
def TreeSel.number : TreeSel → Nat
  | .clt => 0
  | .llt => 1
  | .dt => 2

/-- The tree of an operand number. -/
def TreeSel.ofNumber : Nat → Option TreeSel
  | 0 => some .clt
  | 1 => some .llt
  | 2 => some .dt
  | _ => none

/-- The operand number of a sequence table (model's own, log 8). -/
def SeqTable.number : SeqTable → Nat
  | .ll => 0
  | .d => 1

/-- The sequence table of an operand number. -/
def SeqTable.ofNumber : Nat → Option SeqTable
  | 0 => some .ll
  | 1 => some .d
  | _ => none

/-- LAUNCH's byte sequence as a number: each byte plus one is a digit of base 256, the first byte the
lowest, so that every number stands for exactly one sequence and 0 for the empty one (log 8). -/
def bytesToNat : List Byte → Nat
  | [] => 0
  | b :: bs => 1 + b.toNat + 256 * bytesToNat bs

/-- The digits of `n`, at most `fuel` of them. -/
def natToBytesFuel : Nat → Nat → List Byte
  | 0, _ => []
  | fuel + 1, n =>
    if n = 0 then [] else BitVec.ofNat 8 ((n - 1) % 256) :: natToBytesFuel fuel ((n - 1) / 256)

/-- The byte sequence a number stands for. -/
def natToBytes (n : Nat) : List Byte := natToBytesFuel n n

/-- The CL rows: code-length symbol to instruction, entries 0 to 18. -/
def clRows0 : List Instr :=
  [.clLen0, .clLen1, .clLen2, .clLen3, .clLen4, .clLen5,
   .clLen6, .clLen7, .clLen8, .clLen9, .clLen10, .clLen11,
   .clLen12, .clLen13, .clLen14, .clLen15, .clRep16, .clZero17,
   .clZero18]

/-- The CL rows: code-length symbol to instruction. -/
def clRows : List Instr :=
  clRows0

/-- The LL rows: literal/length symbol to instruction, entries 0 to 31. -/
def llRows0 : List Instr :=
  [.llLit0, .llLit1, .llLit2, .llLit3, .llLit4, .llLit5,
   .llLit6, .llLit7, .llLit8, .llLit9, .llLit10, .llLit11,
   .llLit12, .llLit13, .llLit14, .llLit15, .llLit16, .llLit17,
   .llLit18, .llLit19, .llLit20, .llLit21, .llLit22, .llLit23,
   .llLit24, .llLit25, .llLit26, .llLit27, .llLit28, .llLit29,
   .llLit30, .llLit31]

/-- The LL rows: literal/length symbol to instruction, entries 32 to 63. -/
def llRows1 : List Instr :=
  [.llLit32, .llLit33, .llLit34, .llLit35, .llLit36, .llLit37,
   .llLit38, .llLit39, .llLit40, .llLit41, .llLit42, .llLit43,
   .llLit44, .llLit45, .llLit46, .llLit47, .llLit48, .llLit49,
   .llLit50, .llLit51, .llLit52, .llLit53, .llLit54, .llLit55,
   .llLit56, .llLit57, .llLit58, .llLit59, .llLit60, .llLit61,
   .llLit62, .llLit63]

/-- The LL rows: literal/length symbol to instruction, entries 64 to 95. -/
def llRows2 : List Instr :=
  [.llLit64, .llLit65, .llLit66, .llLit67, .llLit68, .llLit69,
   .llLit70, .llLit71, .llLit72, .llLit73, .llLit74, .llLit75,
   .llLit76, .llLit77, .llLit78, .llLit79, .llLit80, .llLit81,
   .llLit82, .llLit83, .llLit84, .llLit85, .llLit86, .llLit87,
   .llLit88, .llLit89, .llLit90, .llLit91, .llLit92, .llLit93,
   .llLit94, .llLit95]

/-- The LL rows: literal/length symbol to instruction, entries 96 to 127. -/
def llRows3 : List Instr :=
  [.llLit96, .llLit97, .llLit98, .llLit99, .llLit100, .llLit101,
   .llLit102, .llLit103, .llLit104, .llLit105, .llLit106, .llLit107,
   .llLit108, .llLit109, .llLit110, .llLit111, .llLit112, .llLit113,
   .llLit114, .llLit115, .llLit116, .llLit117, .llLit118, .llLit119,
   .llLit120, .llLit121, .llLit122, .llLit123, .llLit124, .llLit125,
   .llLit126, .llLit127]

/-- The LL rows: literal/length symbol to instruction, entries 128 to 159. -/
def llRows4 : List Instr :=
  [.llLit128, .llLit129, .llLit130, .llLit131, .llLit132, .llLit133,
   .llLit134, .llLit135, .llLit136, .llLit137, .llLit138, .llLit139,
   .llLit140, .llLit141, .llLit142, .llLit143, .llLit144, .llLit145,
   .llLit146, .llLit147, .llLit148, .llLit149, .llLit150, .llLit151,
   .llLit152, .llLit153, .llLit154, .llLit155, .llLit156, .llLit157,
   .llLit158, .llLit159]

/-- The LL rows: literal/length symbol to instruction, entries 160 to 191. -/
def llRows5 : List Instr :=
  [.llLit160, .llLit161, .llLit162, .llLit163, .llLit164, .llLit165,
   .llLit166, .llLit167, .llLit168, .llLit169, .llLit170, .llLit171,
   .llLit172, .llLit173, .llLit174, .llLit175, .llLit176, .llLit177,
   .llLit178, .llLit179, .llLit180, .llLit181, .llLit182, .llLit183,
   .llLit184, .llLit185, .llLit186, .llLit187, .llLit188, .llLit189,
   .llLit190, .llLit191]

/-- The LL rows: literal/length symbol to instruction, entries 192 to 223. -/
def llRows6 : List Instr :=
  [.llLit192, .llLit193, .llLit194, .llLit195, .llLit196, .llLit197,
   .llLit198, .llLit199, .llLit200, .llLit201, .llLit202, .llLit203,
   .llLit204, .llLit205, .llLit206, .llLit207, .llLit208, .llLit209,
   .llLit210, .llLit211, .llLit212, .llLit213, .llLit214, .llLit215,
   .llLit216, .llLit217, .llLit218, .llLit219, .llLit220, .llLit221,
   .llLit222, .llLit223]

/-- The LL rows: literal/length symbol to instruction, entries 224 to 255. -/
def llRows7 : List Instr :=
  [.llLit224, .llLit225, .llLit226, .llLit227, .llLit228, .llLit229,
   .llLit230, .llLit231, .llLit232, .llLit233, .llLit234, .llLit235,
   .llLit236, .llLit237, .llLit238, .llLit239, .llLit240, .llLit241,
   .llLit242, .llLit243, .llLit244, .llLit245, .llLit246, .llLit247,
   .llLit248, .llLit249, .llLit250, .llLit251, .llLit252, .llLit253,
   .llLit254, .llLit255]

/-- The LL rows: literal/length symbol to instruction, entries 256 to 287. -/
def llRows8 : List Instr :=
  [.llEob, .llLen257, .llLen258, .llLen259, .llLen260, .llLen261,
   .llLen262, .llLen263, .llLen264, .llLen265, .llLen266, .llLen267,
   .llLen268, .llLen269, .llLen270, .llLen271, .llLen272, .llLen273,
   .llLen274, .llLen275, .llLen276, .llLen277, .llLen278, .llLen279,
   .llLen280, .llLen281, .llLen282, .llLen283, .llLen284, .llLen285,
   .llInvalid286, .llInvalid287]

/-- The LL rows: literal/length symbol to instruction. -/
def llRows : List Instr :=
  llRows0 ++ llRows1 ++ llRows2 ++ llRows3 ++ llRows4 ++ llRows5 ++ llRows6 ++ llRows7 ++ llRows8

/-- The D rows: distance code to instruction, entries 0 to 31. -/
def dRows0 : List Instr :=
  [.d0, .d1, .d2, .d3, .d4, .d5,
   .d6, .d7, .d8, .d9, .d10, .d11,
   .d12, .d13, .d14, .d15, .d16, .d17,
   .d18, .d19, .d20, .d21, .d22, .d23,
   .d24, .d25, .d26, .d27, .d28, .d29,
   .d30, .d31]

/-- The D rows: distance code to instruction. -/
def dRows : List Instr :=
  dRows0

/-- `BFINAL` of a header number (30_encoding.md R91, R110: bit 0). -/
def headerFinal (bits : Nat) : Bool := bits % 2 == 1

/-- `BTYPE` of a header number (30_encoding.md R91, R110: bits 2..1). -/
def headerType (bits : Nat) : Nat := bits / 2

/-- Format BH: `mask = 6` selects `BTYPE`, bit 0 is the operand `BFINAL`. -/
def decodeHeader (bits : Nat) : Except DecodeError Instr :=
  match headerType bits with
  | 0 => .ok (.blkStored (headerFinal bits))
  | 1 => .ok (.blkFixed (headerFinal bits))
  | 2 => .ok (.blkDynamic (headerFinal bits))
  | 3 => .ok (.blkReserved (headerFinal bits))
  | _ => .error .noSuchHeader

/-- Format DH: the three counts by their bit offset (R94). -/
def decodeField (bits : Nat) : Except DecodeError Instr :=
  match bits with
  | 0 => .ok .dhHlit
  | 5 => .ok .dhHdist
  | 10 => .ok .dhHclen
  | _ => .error .noSuchField

/-- A row of a table by its symbol, or the error of that table. -/
def decodeRow (rows : List Instr) (e : DecodeError) (bits : Nat) : Except DecodeError Instr :=
  match rows[bits]? with
  | some i => .ok i
  | none => .error e

/-- An operation without operands. -/
def decodeNullary (i : Instr) (operand : Nat) : Except DecodeError Instr :=
  if operand = 0 then .ok i else .error .strayOperand

/-- An operation on a tree. -/
def decodeTreeOp (make : TreeSel → Instr) (operand : Nat) : Except DecodeError Instr :=
  match TreeSel.ofNumber operand with
  | some t => .ok (make t)
  | none => .error .noSuchTree

/-- CLSEQ. -/
def decodeClseq (operand : Nat) : Except DecodeError Instr :=
  match SeqTable.ofNumber operand with
  | some t => .ok (.clseq t)
  | none => .error .noSuchTable

/-- RB.BYTES: the count is `LEN`, 0..65535 (R71). -/
def decodeRbBytes (operand : Nat) : Except DecodeError Instr :=
  if operand ≤ 65535 then .ok (.rbBytes operand) else .error .byteCountTooLarge

/-- Format OP: the operation number is the low byte (`mask = 255`), the operand stands above it. -/
def decodeOperation (bits : Nat) : Except DecodeError Instr :=
  match bits % 256 with
  | 0 => decodeNullary .rbBit (bits / 256)
  | 1 => .ok (.rbMsb (bits / 256))
  | 2 => .ok (.rbLsb (bits / 256))
  | 3 => decodeRbBytes (bits / 256)
  | 4 => decodeNullary .rbAlign (bits / 256)
  | 5 => decodeTreeOp .htBuild (bits / 256)
  | 6 => decodeTreeOp .htDecode (bits / 256)
  | 7 => decodeClseq (bits / 256)
  | 8 => decodeNullary .expand (bits / 256)
  | 9 => decodeNullary .copy (bits / 256)
  | 10 => .ok (.launch (natToBytes (bits / 256)))
  | 11 => decodeNullary .blkHdr (bits / 256)
  | 12 => decodeNullary .result (bits / 256)
  | _ => .error .noSuchOperation

/-- The instruction an element word stands for, total, rejecting by name. -/
def decode (w : ElementWord) : Except DecodeError Instr :=
  match w.format with
  | .bh => decodeHeader w.bits
  | .st => if w.bits = 0 then .ok .stHdr else .error .noSuchGroup
  | .dh => decodeField w.bits
  | .cll => if w.bits = 0 then .ok .dhClcl else .error .noSuchGroup
  | .cl => decodeRow clRows .noSuchCodeLengthSymbol w.bits
  | .ll => decodeRow llRows .noSuchLiteralLengthSymbol w.bits
  | .d => decodeRow dRows .noSuchDistanceCode w.bits
  | .op => decodeOperation w.bits

/-- The word of an instruction, from the same columns `format`, `match` and `mask` of the table. -/
def encode (i : Instr) : ElementWord :=
  match i with
  | .blkStored f => ⟨.bh, f.toNat + 2 * 0⟩
  | .blkFixed f => ⟨.bh, f.toNat + 2 * 1⟩
  | .blkDynamic f => ⟨.bh, f.toNat + 2 * 2⟩
  | .blkReserved f => ⟨.bh, f.toNat + 2 * 3⟩
  | .stHdr => ⟨.st, 0⟩
  | .dhHlit => ⟨.dh, 0⟩
  | .dhHdist => ⟨.dh, 5⟩
  | .dhHclen => ⟨.dh, 10⟩
  | .dhClcl => ⟨.cll, 0⟩
  | .rbBit => ⟨.op, 0⟩
  | .rbMsb n => ⟨.op, 1 + 256 * n⟩
  | .rbLsb n => ⟨.op, 2 + 256 * n⟩
  | .rbBytes n => ⟨.op, 3 + 256 * n⟩
  | .rbAlign => ⟨.op, 4⟩
  | .htBuild t => ⟨.op, 5 + 256 * t.number⟩
  | .htDecode t => ⟨.op, 6 + 256 * t.number⟩
  | .clseq t => ⟨.op, 7 + 256 * t.number⟩
  | .expand => ⟨.op, 8⟩
  | .copy => ⟨.op, 9⟩
  | .launch bytes => ⟨.op, 10 + 256 * bytesToNat bytes⟩
  | .blkHdr => ⟨.op, 11⟩
  | .result => ⟨.op, 12⟩
  | .clLen0 => ⟨.cl, 0⟩
  | .clLen1 => ⟨.cl, 1⟩
  | .clLen2 => ⟨.cl, 2⟩
  | .clLen3 => ⟨.cl, 3⟩
  | .clLen4 => ⟨.cl, 4⟩
  | .clLen5 => ⟨.cl, 5⟩
  | .clLen6 => ⟨.cl, 6⟩
  | .clLen7 => ⟨.cl, 7⟩
  | .clLen8 => ⟨.cl, 8⟩
  | .clLen9 => ⟨.cl, 9⟩
  | .clLen10 => ⟨.cl, 10⟩
  | .clLen11 => ⟨.cl, 11⟩
  | .clLen12 => ⟨.cl, 12⟩
  | .clLen13 => ⟨.cl, 13⟩
  | .clLen14 => ⟨.cl, 14⟩
  | .clLen15 => ⟨.cl, 15⟩
  | .clRep16 => ⟨.cl, 16⟩
  | .clZero17 => ⟨.cl, 17⟩
  | .clZero18 => ⟨.cl, 18⟩
  | .d0 => ⟨.d, 0⟩
  | .d1 => ⟨.d, 1⟩
  | .d2 => ⟨.d, 2⟩
  | .d3 => ⟨.d, 3⟩
  | .d4 => ⟨.d, 4⟩
  | .d5 => ⟨.d, 5⟩
  | .d6 => ⟨.d, 6⟩
  | .d7 => ⟨.d, 7⟩
  | .d8 => ⟨.d, 8⟩
  | .d9 => ⟨.d, 9⟩
  | .d10 => ⟨.d, 10⟩
  | .d11 => ⟨.d, 11⟩
  | .d12 => ⟨.d, 12⟩
  | .d13 => ⟨.d, 13⟩
  | .d14 => ⟨.d, 14⟩
  | .d15 => ⟨.d, 15⟩
  | .d16 => ⟨.d, 16⟩
  | .d17 => ⟨.d, 17⟩
  | .d18 => ⟨.d, 18⟩
  | .d19 => ⟨.d, 19⟩
  | .d20 => ⟨.d, 20⟩
  | .d21 => ⟨.d, 21⟩
  | .d22 => ⟨.d, 22⟩
  | .d23 => ⟨.d, 23⟩
  | .d24 => ⟨.d, 24⟩
  | .d25 => ⟨.d, 25⟩
  | .d26 => ⟨.d, 26⟩
  | .d27 => ⟨.d, 27⟩
  | .d28 => ⟨.d, 28⟩
  | .d29 => ⟨.d, 29⟩
  | .d30 => ⟨.d, 30⟩
  | .d31 => ⟨.d, 31⟩
  | .llLit0 => ⟨.ll, 0⟩
  | .llLit1 => ⟨.ll, 1⟩
  | .llLit2 => ⟨.ll, 2⟩
  | .llLit3 => ⟨.ll, 3⟩
  | .llLit4 => ⟨.ll, 4⟩
  | .llLit5 => ⟨.ll, 5⟩
  | .llLit6 => ⟨.ll, 6⟩
  | .llLit7 => ⟨.ll, 7⟩
  | .llLit8 => ⟨.ll, 8⟩
  | .llLit9 => ⟨.ll, 9⟩
  | .llLit10 => ⟨.ll, 10⟩
  | .llLit11 => ⟨.ll, 11⟩
  | .llLit12 => ⟨.ll, 12⟩
  | .llLit13 => ⟨.ll, 13⟩
  | .llLit14 => ⟨.ll, 14⟩
  | .llLit15 => ⟨.ll, 15⟩
  | .llLit16 => ⟨.ll, 16⟩
  | .llLit17 => ⟨.ll, 17⟩
  | .llLit18 => ⟨.ll, 18⟩
  | .llLit19 => ⟨.ll, 19⟩
  | .llLit20 => ⟨.ll, 20⟩
  | .llLit21 => ⟨.ll, 21⟩
  | .llLit22 => ⟨.ll, 22⟩
  | .llLit23 => ⟨.ll, 23⟩
  | .llLit24 => ⟨.ll, 24⟩
  | .llLit25 => ⟨.ll, 25⟩
  | .llLit26 => ⟨.ll, 26⟩
  | .llLit27 => ⟨.ll, 27⟩
  | .llLit28 => ⟨.ll, 28⟩
  | .llLit29 => ⟨.ll, 29⟩
  | .llLit30 => ⟨.ll, 30⟩
  | .llLit31 => ⟨.ll, 31⟩
  | .llLit32 => ⟨.ll, 32⟩
  | .llLit33 => ⟨.ll, 33⟩
  | .llLit34 => ⟨.ll, 34⟩
  | .llLit35 => ⟨.ll, 35⟩
  | .llLit36 => ⟨.ll, 36⟩
  | .llLit37 => ⟨.ll, 37⟩
  | .llLit38 => ⟨.ll, 38⟩
  | .llLit39 => ⟨.ll, 39⟩
  | .llLit40 => ⟨.ll, 40⟩
  | .llLit41 => ⟨.ll, 41⟩
  | .llLit42 => ⟨.ll, 42⟩
  | .llLit43 => ⟨.ll, 43⟩
  | .llLit44 => ⟨.ll, 44⟩
  | .llLit45 => ⟨.ll, 45⟩
  | .llLit46 => ⟨.ll, 46⟩
  | .llLit47 => ⟨.ll, 47⟩
  | .llLit48 => ⟨.ll, 48⟩
  | .llLit49 => ⟨.ll, 49⟩
  | .llLit50 => ⟨.ll, 50⟩
  | .llLit51 => ⟨.ll, 51⟩
  | .llLit52 => ⟨.ll, 52⟩
  | .llLit53 => ⟨.ll, 53⟩
  | .llLit54 => ⟨.ll, 54⟩
  | .llLit55 => ⟨.ll, 55⟩
  | .llLit56 => ⟨.ll, 56⟩
  | .llLit57 => ⟨.ll, 57⟩
  | .llLit58 => ⟨.ll, 58⟩
  | .llLit59 => ⟨.ll, 59⟩
  | .llLit60 => ⟨.ll, 60⟩
  | .llLit61 => ⟨.ll, 61⟩
  | .llLit62 => ⟨.ll, 62⟩
  | .llLit63 => ⟨.ll, 63⟩
  | .llLit64 => ⟨.ll, 64⟩
  | .llLit65 => ⟨.ll, 65⟩
  | .llLit66 => ⟨.ll, 66⟩
  | .llLit67 => ⟨.ll, 67⟩
  | .llLit68 => ⟨.ll, 68⟩
  | .llLit69 => ⟨.ll, 69⟩
  | .llLit70 => ⟨.ll, 70⟩
  | .llLit71 => ⟨.ll, 71⟩
  | .llLit72 => ⟨.ll, 72⟩
  | .llLit73 => ⟨.ll, 73⟩
  | .llLit74 => ⟨.ll, 74⟩
  | .llLit75 => ⟨.ll, 75⟩
  | .llLit76 => ⟨.ll, 76⟩
  | .llLit77 => ⟨.ll, 77⟩
  | .llLit78 => ⟨.ll, 78⟩
  | .llLit79 => ⟨.ll, 79⟩
  | .llLit80 => ⟨.ll, 80⟩
  | .llLit81 => ⟨.ll, 81⟩
  | .llLit82 => ⟨.ll, 82⟩
  | .llLit83 => ⟨.ll, 83⟩
  | .llLit84 => ⟨.ll, 84⟩
  | .llLit85 => ⟨.ll, 85⟩
  | .llLit86 => ⟨.ll, 86⟩
  | .llLit87 => ⟨.ll, 87⟩
  | .llLit88 => ⟨.ll, 88⟩
  | .llLit89 => ⟨.ll, 89⟩
  | .llLit90 => ⟨.ll, 90⟩
  | .llLit91 => ⟨.ll, 91⟩
  | .llLit92 => ⟨.ll, 92⟩
  | .llLit93 => ⟨.ll, 93⟩
  | .llLit94 => ⟨.ll, 94⟩
  | .llLit95 => ⟨.ll, 95⟩
  | .llLit96 => ⟨.ll, 96⟩
  | .llLit97 => ⟨.ll, 97⟩
  | .llLit98 => ⟨.ll, 98⟩
  | .llLit99 => ⟨.ll, 99⟩
  | .llLit100 => ⟨.ll, 100⟩
  | .llLit101 => ⟨.ll, 101⟩
  | .llLit102 => ⟨.ll, 102⟩
  | .llLit103 => ⟨.ll, 103⟩
  | .llLit104 => ⟨.ll, 104⟩
  | .llLit105 => ⟨.ll, 105⟩
  | .llLit106 => ⟨.ll, 106⟩
  | .llLit107 => ⟨.ll, 107⟩
  | .llLit108 => ⟨.ll, 108⟩
  | .llLit109 => ⟨.ll, 109⟩
  | .llLit110 => ⟨.ll, 110⟩
  | .llLit111 => ⟨.ll, 111⟩
  | .llLit112 => ⟨.ll, 112⟩
  | .llLit113 => ⟨.ll, 113⟩
  | .llLit114 => ⟨.ll, 114⟩
  | .llLit115 => ⟨.ll, 115⟩
  | .llLit116 => ⟨.ll, 116⟩
  | .llLit117 => ⟨.ll, 117⟩
  | .llLit118 => ⟨.ll, 118⟩
  | .llLit119 => ⟨.ll, 119⟩
  | .llLit120 => ⟨.ll, 120⟩
  | .llLit121 => ⟨.ll, 121⟩
  | .llLit122 => ⟨.ll, 122⟩
  | .llLit123 => ⟨.ll, 123⟩
  | .llLit124 => ⟨.ll, 124⟩
  | .llLit125 => ⟨.ll, 125⟩
  | .llLit126 => ⟨.ll, 126⟩
  | .llLit127 => ⟨.ll, 127⟩
  | .llLit128 => ⟨.ll, 128⟩
  | .llLit129 => ⟨.ll, 129⟩
  | .llLit130 => ⟨.ll, 130⟩
  | .llLit131 => ⟨.ll, 131⟩
  | .llLit132 => ⟨.ll, 132⟩
  | .llLit133 => ⟨.ll, 133⟩
  | .llLit134 => ⟨.ll, 134⟩
  | .llLit135 => ⟨.ll, 135⟩
  | .llLit136 => ⟨.ll, 136⟩
  | .llLit137 => ⟨.ll, 137⟩
  | .llLit138 => ⟨.ll, 138⟩
  | .llLit139 => ⟨.ll, 139⟩
  | .llLit140 => ⟨.ll, 140⟩
  | .llLit141 => ⟨.ll, 141⟩
  | .llLit142 => ⟨.ll, 142⟩
  | .llLit143 => ⟨.ll, 143⟩
  | .llLit144 => ⟨.ll, 144⟩
  | .llLit145 => ⟨.ll, 145⟩
  | .llLit146 => ⟨.ll, 146⟩
  | .llLit147 => ⟨.ll, 147⟩
  | .llLit148 => ⟨.ll, 148⟩
  | .llLit149 => ⟨.ll, 149⟩
  | .llLit150 => ⟨.ll, 150⟩
  | .llLit151 => ⟨.ll, 151⟩
  | .llLit152 => ⟨.ll, 152⟩
  | .llLit153 => ⟨.ll, 153⟩
  | .llLit154 => ⟨.ll, 154⟩
  | .llLit155 => ⟨.ll, 155⟩
  | .llLit156 => ⟨.ll, 156⟩
  | .llLit157 => ⟨.ll, 157⟩
  | .llLit158 => ⟨.ll, 158⟩
  | .llLit159 => ⟨.ll, 159⟩
  | .llLit160 => ⟨.ll, 160⟩
  | .llLit161 => ⟨.ll, 161⟩
  | .llLit162 => ⟨.ll, 162⟩
  | .llLit163 => ⟨.ll, 163⟩
  | .llLit164 => ⟨.ll, 164⟩
  | .llLit165 => ⟨.ll, 165⟩
  | .llLit166 => ⟨.ll, 166⟩
  | .llLit167 => ⟨.ll, 167⟩
  | .llLit168 => ⟨.ll, 168⟩
  | .llLit169 => ⟨.ll, 169⟩
  | .llLit170 => ⟨.ll, 170⟩
  | .llLit171 => ⟨.ll, 171⟩
  | .llLit172 => ⟨.ll, 172⟩
  | .llLit173 => ⟨.ll, 173⟩
  | .llLit174 => ⟨.ll, 174⟩
  | .llLit175 => ⟨.ll, 175⟩
  | .llLit176 => ⟨.ll, 176⟩
  | .llLit177 => ⟨.ll, 177⟩
  | .llLit178 => ⟨.ll, 178⟩
  | .llLit179 => ⟨.ll, 179⟩
  | .llLit180 => ⟨.ll, 180⟩
  | .llLit181 => ⟨.ll, 181⟩
  | .llLit182 => ⟨.ll, 182⟩
  | .llLit183 => ⟨.ll, 183⟩
  | .llLit184 => ⟨.ll, 184⟩
  | .llLit185 => ⟨.ll, 185⟩
  | .llLit186 => ⟨.ll, 186⟩
  | .llLit187 => ⟨.ll, 187⟩
  | .llLit188 => ⟨.ll, 188⟩
  | .llLit189 => ⟨.ll, 189⟩
  | .llLit190 => ⟨.ll, 190⟩
  | .llLit191 => ⟨.ll, 191⟩
  | .llLit192 => ⟨.ll, 192⟩
  | .llLit193 => ⟨.ll, 193⟩
  | .llLit194 => ⟨.ll, 194⟩
  | .llLit195 => ⟨.ll, 195⟩
  | .llLit196 => ⟨.ll, 196⟩
  | .llLit197 => ⟨.ll, 197⟩
  | .llLit198 => ⟨.ll, 198⟩
  | .llLit199 => ⟨.ll, 199⟩
  | .llLit200 => ⟨.ll, 200⟩
  | .llLit201 => ⟨.ll, 201⟩
  | .llLit202 => ⟨.ll, 202⟩
  | .llLit203 => ⟨.ll, 203⟩
  | .llLit204 => ⟨.ll, 204⟩
  | .llLit205 => ⟨.ll, 205⟩
  | .llLit206 => ⟨.ll, 206⟩
  | .llLit207 => ⟨.ll, 207⟩
  | .llLit208 => ⟨.ll, 208⟩
  | .llLit209 => ⟨.ll, 209⟩
  | .llLit210 => ⟨.ll, 210⟩
  | .llLit211 => ⟨.ll, 211⟩
  | .llLit212 => ⟨.ll, 212⟩
  | .llLit213 => ⟨.ll, 213⟩
  | .llLit214 => ⟨.ll, 214⟩
  | .llLit215 => ⟨.ll, 215⟩
  | .llLit216 => ⟨.ll, 216⟩
  | .llLit217 => ⟨.ll, 217⟩
  | .llLit218 => ⟨.ll, 218⟩
  | .llLit219 => ⟨.ll, 219⟩
  | .llLit220 => ⟨.ll, 220⟩
  | .llLit221 => ⟨.ll, 221⟩
  | .llLit222 => ⟨.ll, 222⟩
  | .llLit223 => ⟨.ll, 223⟩
  | .llLit224 => ⟨.ll, 224⟩
  | .llLit225 => ⟨.ll, 225⟩
  | .llLit226 => ⟨.ll, 226⟩
  | .llLit227 => ⟨.ll, 227⟩
  | .llLit228 => ⟨.ll, 228⟩
  | .llLit229 => ⟨.ll, 229⟩
  | .llLit230 => ⟨.ll, 230⟩
  | .llLit231 => ⟨.ll, 231⟩
  | .llLit232 => ⟨.ll, 232⟩
  | .llLit233 => ⟨.ll, 233⟩
  | .llLit234 => ⟨.ll, 234⟩
  | .llLit235 => ⟨.ll, 235⟩
  | .llLit236 => ⟨.ll, 236⟩
  | .llLit237 => ⟨.ll, 237⟩
  | .llLit238 => ⟨.ll, 238⟩
  | .llLit239 => ⟨.ll, 239⟩
  | .llLit240 => ⟨.ll, 240⟩
  | .llLit241 => ⟨.ll, 241⟩
  | .llLit242 => ⟨.ll, 242⟩
  | .llLit243 => ⟨.ll, 243⟩
  | .llLit244 => ⟨.ll, 244⟩
  | .llLit245 => ⟨.ll, 245⟩
  | .llLit246 => ⟨.ll, 246⟩
  | .llLit247 => ⟨.ll, 247⟩
  | .llLit248 => ⟨.ll, 248⟩
  | .llLit249 => ⟨.ll, 249⟩
  | .llLit250 => ⟨.ll, 250⟩
  | .llLit251 => ⟨.ll, 251⟩
  | .llLit252 => ⟨.ll, 252⟩
  | .llLit253 => ⟨.ll, 253⟩
  | .llLit254 => ⟨.ll, 254⟩
  | .llLit255 => ⟨.ll, 255⟩
  | .llEob => ⟨.ll, 256⟩
  | .llLen257 => ⟨.ll, 257⟩
  | .llLen258 => ⟨.ll, 258⟩
  | .llLen259 => ⟨.ll, 259⟩
  | .llLen260 => ⟨.ll, 260⟩
  | .llLen261 => ⟨.ll, 261⟩
  | .llLen262 => ⟨.ll, 262⟩
  | .llLen263 => ⟨.ll, 263⟩
  | .llLen264 => ⟨.ll, 264⟩
  | .llLen265 => ⟨.ll, 265⟩
  | .llLen266 => ⟨.ll, 266⟩
  | .llLen267 => ⟨.ll, 267⟩
  | .llLen268 => ⟨.ll, 268⟩
  | .llLen269 => ⟨.ll, 269⟩
  | .llLen270 => ⟨.ll, 270⟩
  | .llLen271 => ⟨.ll, 271⟩
  | .llLen272 => ⟨.ll, 272⟩
  | .llLen273 => ⟨.ll, 273⟩
  | .llLen274 => ⟨.ll, 274⟩
  | .llLen275 => ⟨.ll, 275⟩
  | .llLen276 => ⟨.ll, 276⟩
  | .llLen277 => ⟨.ll, 277⟩
  | .llLen278 => ⟨.ll, 278⟩
  | .llLen279 => ⟨.ll, 279⟩
  | .llLen280 => ⟨.ll, 280⟩
  | .llLen281 => ⟨.ll, 281⟩
  | .llLen282 => ⟨.ll, 282⟩
  | .llLen283 => ⟨.ll, 283⟩
  | .llLen284 => ⟨.ll, 284⟩
  | .llLen285 => ⟨.ll, 285⟩
  | .llInvalid286 => ⟨.ll, 286⟩
  | .llInvalid287 => ⟨.ll, 287⟩

/-- The number of bits of a format's space (the table's masks, R110); `none` where a word may be of any
size. -/
def Format.width : Format → Option Nat
  | .bh => some 3
  | .st => some 0
  | .dh => some 4
  | .cll => some 0
  | .cl => some 5
  | .ll => some 9
  | .d => some 5
  | .op => none

/-- The format taken for a bare number of `nbits` bits.

The table's spaces overlap (0 is a block header, a code-length symbol, a literal, a distance code and an
operation), so a bare number does not say its format and the model fixes a reading (log 15): one byte is
read as the first element after launch, a block header, where it is one (below 8), else as an operation
(8..12), else as a code-length symbol (13..18), else as a distance code; two bytes are a literal/length
symbol, the only space wider than a byte; a wider number is a distance code; no bits at all are a stored
body. -/
def tableFormat (nbits w : Nat) : Format :=
  if nbits = 0 then .st
  else if nbits ≤ 8 then
    if w < 8 then .bh else if w ≤ 12 then .op else if w ≤ 18 then .cl else .d
  else if nbits ≤ 16 then .ll
  else .d

/-- The instruction the decoder reads from a bare number, numbered as spec/opcode_table.json numbers
bits, in the format `tableFormat` takes for it. -/
def decodeTableWord (nbits w : Nat) : Option Instr :=
  (decode ⟨tableFormat nbits w, w⟩).toOption

end Sys2Proof
end

