-- ==== Sys2Proof/Machine/Fetch.lean ====
section
/-! DEFINITION. Machine/Fetch.lean: fetching the next element, and the statements of the pseudocode that
stand between two elements.

The cursor is the program counter (10_state.md R22). What is fetched depends on where the decode loop
stands (30_encoding.md R107): the three header bits at READING_HEADER, nothing for a field group, a code
of `CLT`, `LLT` or `DT` or the raw distance field for a symbol. -/

namespace Sys2Proof.Machine

/-- The word of RESULT, which is all a finished run has left to do (46_decode_loop.md R266). -/
def resultWord : ElementWord := ⟨.op, 12⟩

/-- The next element of the running block decoder. -/
def fetchElement : M ElementWord := do
  let s ← get
  match s.phase with
  | .storedBody => return ⟨.st, 0⟩
  | .hlit => return ⟨.dh, 0⟩
  | .hdist => return ⟨.dh, 5⟩
  | .hclen => return ⟨.dh, 10⟩
  | .clcl => return ⟨.cll, 0⟩
  | .codeLengths => do
    let sym ← htDecode .clt
    modify fun s => { s with clsym := sym }
    return ⟨.cl, sym⟩
  | .expand => do
    let sym ← htDecode .llt
    modify fun s => { s with sym := sym }
    return ⟨.ll, sym⟩
  | .distance => do
    let code ← distFetch
    modify fun s => { s with dcode := code }
    return ⟨.d, code⟩
  | .idle => refuse .noElement
  | .buildClt => refuse .noElement
  | .returned => refuse .noElement

/-- An operation word is one of the two host transactions, LAUNCH or RESULT (46_decode_loop.md R260,
R266; operation numbers 10 and 12). -/
def isHostTransaction (w : Nat) : Bool := w % 256 == 10 || w % 256 == 12

/-- The next element of the machine: a pending operation first (log 8), then by `FSM` (R261). After the
run is over only a host transaction is left (R261, R266). -/
def fetch : M ElementWord := do
  let s ← get
  match s.port with
  | some w =>
    if s.over && !isHostTransaction w then
      refuse .runIsOver
    else do
      set { s with port := Option.none }
      return ⟨.op, w⟩
  | Option.none =>
    match s.fsm with
    | .readingHeader => do
      let header ← readHeader
      return ⟨.bh, header⟩
    | .dispatching => fetchElement
    | .done => return resultWord
    | .fault => return resultWord

/-- A fetched word that is no row: a symbol outside the literal/length or the distance alphabet is an
InvalidSymbol (60_exceptions.md R285); any other word has no meaning (log 14). -/
def rejected (w : ElementWord) (s : State) : Host.Outcome State Fault Refusal :=
  match w.format with
  | .ll => trapped (.raise .invalidSymbol) s
  | .d => trapped (.raise .invalidSymbol) s
  | _ => .refused .noSuchInstruction

/-- When a sequence is complete: after the literal/length lengths the unused entries are cleared and the
distance sequence begins (44_dynamic.md R190, R201, R203); after the distance lengths both trees are
built and the expander entered (R204). -/
def endSequence (t : SeqTable) : M Unit :=
  match t with
  | .ll => modify fun s => s.clearUnusedLengths.beginSequence .d
  | .d => do
    buildBlockTrees
    modify fun s => { s with phase := .expand }

/-- What the pseudocode does after an element and before the next one is fetched: the build of `CLT`
(44_dynamic.md R195), the end of a code-length sequence (R196), the end of a block (46_decode_loop.md
R265). A run that is over has nothing left to do (R261). -/
def settle : M Unit := do
  let s ← get
  if s.over then pure ()
  else
    match s.phase with
    | .buildClt => do
      htBuild .clt
      modify fun s => { s.beginSequence .ll with phase := .codeLengths }
    | .codeLengths =>
      if s.seqLen s.seqTable ≤ s.cli then endSequence s.seqTable else pure ()
    | .returned => set s.leaveBlock
    | _ => pure ()

/-! ### A word laid where the next step fetches it -/

/-- A tree with one code, the single bit 0, for one symbol: HT.BUILD's tree of a table in which only that
symbol has a length, 1 (41_huffman.md R150, R154). -/
def oneCodeTree (sym : Nat) : Tree :=
  .node (.node .none .none (some sym)) .none Option.none

/-- `IN` with a first byte and zeros behind it, the cursor at its first bit. -/
def State.withInput (s : State) (first : Byte) : State :=
  { s with input := Memory.ofBytes [first], inLen := 16, cur := 0, port := Option.none }

/-- A block decoder at one of its elements. -/
def State.atPhase (s : State) (p : Phase) : State := { s with fsm := .dispatching, phase := p }

/-- The element word laid where the next step fetches it: a header in the first bits of `IN` at
READING_HEADER, a symbol as the code `0` of the tree its fetch descends, a field group as the phase that
asks for it, an operation at the port. -/
def State.placeWord (s : State) (w : ElementWord) : State :=
  match w.format with
  | .bh => { s.withInput (BitVec.ofNat 8 w.bits) with fsm := .readingHeader, phase := .idle }
  | .st => (s.withInput 0).atPhase .storedBody
  | .dh => (s.withInput 0).atPhase
      (if w.bits = 0 then .hlit else if w.bits = 5 then .hdist else .hclen)
  | .cll => (s.withInput 0).atPhase .clcl
  | .cl => { (s.withInput 0).atPhase .codeLengths with
             clt := oneCodeTree w.bits, hlit := 257, hdist := 1, seqTable := .ll, cli := 0 }
  | .ll => { (s.withInput 0).atPhase .expand with llt := oneCodeTree w.bits }
  | .d => { (s.withInput 0).atPhase .distance with dt := oneCodeTree w.bits, dtPresent := true }
  | .op =>
    if s.over && !isHostTransaction w.bits then
      { s with port := some w.bits, fsm := .readingHeader }
    else
      { s with port := some w.bits }

end Sys2Proof.Machine
end

