-- ==== Sys2Proof/Machine/Sequencer.lean ====
section
/-! DEFINITION. Machine/Sequencer.lean: running a fetched word: decode it, run the instruction, and go on to
where the next element is fetched. -/

namespace Sys2Proof.Machine

/-- An instruction run, then the statements that follow it before the next fetch. -/
def runInstr (i : Instr) (s : State) : Host.Outcome State Fault Refusal :=
  match exec i s with
  | .next t => perform settle t
  | .fault r => .fault r
  | .refused r => .refused r

/-- A fetched word run. -/
def runWord (w : ElementWord) (s : State) : Host.Outcome State Fault Refusal :=
  match decode w with
  | .ok i => runInstr i s
  | .error _ => rejected w s

/-- What was fetched is run; a fetch that ends early ends the step. -/
def runFetched (fetched : EStateM.Result Trap State ElementWord) : Host.Outcome State Fault Refusal :=
  match fetched with
  | .ok w s => runWord w s
  | .error trap s => trapped trap s

end Sys2Proof.Machine
end

