-- ==== Sys2Proof/Machine/Step.lean ====
section
/-! DEFINITION. Machine/Step.lean: one step of the machine, and a bare number of the table laid where the
step fetches it. -/

namespace Sys2Proof.Machine

/-- One step: an element is fetched and run. -/
def step (s : State) : Host.Outcome State Fault Refusal := runFetched (fetch s)

/-- The state with a bare number of the table laid where the next step fetches it (log 15). -/
def State.withFetchWord (s : State) (nbits w : Nat) : State := s.placeWord ⟨tableFormat nbits w, w⟩

end Sys2Proof.Machine
end

