-- ==== Sys2Proof/Safety.lean ====
section
/-! DEFINITION. Safety.lean: the terms the claims are stated in: what it is to raise a fault, the trees
HT.BUILD makes, canonical codes, and the invariant of a run. -/

namespace Sys2Proof.Machine

/-- The outcome is a fault of the spec: the next state is FAULT with the cause in `ERR`, and nothing else
about it is observable (60_exceptions.md R292, decision D8). -/
def Raises (o : Host.Outcome State Fault Refusal) (c : Cause) : Prop :=
  ∃ t, o = .next t ∧ t.fsm = .fault ∧ t.err = c

/-- From `s` the machine steps to `t`, in any number of steps. -/
def StepsTo (s t : State) : Prop := ∃ k, Sys2Proof.core.run k s = .next t

/-! ### Fields of the stream -/

/-- The `n` bits from bit index `c` on as an LSB-first field: the first bit is bit 0 (20_memory.md R65). -/
def Memory.lsbField (m : Memory) (c n : Nat) : Nat :=
  ((List.range n).map fun i => m.bit (c + i) * 2 ^ i).sum

/-- The `n` bits from bit index `c` on as an MSB-first code: the first bit is bit `n-1` (20_memory.md R66). -/
def Memory.msbField (m : Memory) (c n : Nat) : Nat :=
  ((List.range n).map fun i => m.bit (c + i) * 2 ^ (n - 1 - i)).sum

/-- `n` bits are left in the input. -/
def State.hasBits (s : State) (n : Nat) : Prop := s.cur + n ≤ 8 * s.inLen

/-! ### Trees -/

/-- The node reached by the low `l` bits of `c`, most significant first (41_huffman.md R154, R156). -/
def Tree.follow (tree : Tree) (l c : Nat) : Tree :=
  match l with
  | 0 => tree
  | l + 1 => if c.testBit l then tree.right.follow l c else tree.left.follow l c

/-- A leaf with a symbol (10_state.md R33). -/
def Tree.leaf (sym : Nat) : Tree := .node .none .none (some sym)

/-- Every symbol of the tree is below `n`. -/
def Tree.symbolsBelow (n : Nat) : Tree → Bool
  | .none => true
  | .node l r sym =>
    l.symbolsBelow n && r.symbolsBelow n &&
      (match sym with
       | some v => decide (v < n)
       | Option.none => true)

/-- A tree as HT.BUILD leaves it for an alphabet of `n`: there is a root, the root carries no symbol
(every code has at least one bit, 41_huffman.md R159), and its symbols are of the alphabet. -/
def Tree.built (n : Nat) : Tree → Bool
  | .node l r Option.none => l.symbolsBelow n && r.symbolsBelow n
  | _ => false

/-- The canonical code of a symbol: the first code of its length plus the number of earlier symbols of
that length (41_huffman.md R152, R154). -/
def canonicalCode (lengths : List Nat) (sym : Nat) : Nat :=
  firstCode (countLengths lengths) (lengths.getD sym 0) +
    ((lengths.take sym).filter fun l => l == lengths.getD sym 0).length

/-- A table HT.BUILD takes: lengths 0..15, not over-subscribed (41_huffman.md R150, R153), the sum taken
over the symbols: a symbol of length L takes 2^(15-L) of 2^15. -/
def acceptable (lengths : List Nat) : Prop :=
  (∀ l ∈ lengths, l ≤ maxBits) ∧
    ((lengths.filter fun l => l ≠ 0).map fun l => 2 ^ (maxBits - l)).sum ≤ 2 ^ maxBits

/-- The next bits of the stream are the code of a symbol of a tree, `l` bits long, and it is there. -/
def State.codeAhead (s : State) (tree : Tree) (l sym : Nat) : Prop :=
  s.hasBits l ∧ tree.follow l (s.input.msbField s.cur l) = Tree.leaf sym

/-- The number of nodes of a tree (41_huffman.md R155). -/
def Tree.nodes : Tree → Nat
  | .none => 0
  | .node l r _ => l.nodes + r.nodes + 1

/-! ### Runs of code lengths, matches, and pieces -/

/-- The size of the table a sequence is read into (10_state.md R31, R32). -/
def State.seqSize (s : State) : Nat :=
  match s.seqTable with
  | .ll => s.llcl.length
  | .d => s.dcl.length

/-- From `s` to `t` a run of `rep` copies of the length `v` was emitted after `ebits` extra bits, and
nothing else changed (44_dynamic.md R196, R198 to R200): the entries `CLI .. CLI+rep-1` of the running
sequence are `v`, every other entry and the other table are as before. -/
def RunEmitted (s t : State) (v rep ebits : Nat) : Prop :=
  t = { s with cur := s.cur + ebits, rep := rep, cli := s.cli + rep, llcl := t.llcl, dcl := t.dcl } ∧
    t.llcl.length = s.llcl.length ∧ t.dcl.length = s.dcl.length ∧
    (s.seqTable = .ll → t.dcl = s.dcl) ∧ (s.seqTable = .d → t.llcl = s.llcl) ∧
    ∀ j, t.seqEntry j = if s.cli ≤ j ∧ j < s.cli + rep then v else s.seqEntry j

/-- `OUT` of `t` is `OUT` of `s` with `n` bytes appended that repeat the last `d` bytes cyclically, the
closed form of COPY (45_lz77.md R234, R235). -/
def CopiedFrom (s t : State) (n d : Nat) : Prop :=
  t.outLen = s.outLen + n ∧ (∀ a, a < s.outLen → t.out.read a = s.out.read a) ∧
    (∀ k, k < n → t.out.read (s.outLen + k) = s.out.read (s.outLen - d + k % d)) ∧
    ∀ a, s.outLen + n ≤ a → t.out.read a = s.out.read a

/-- An outcome in one piece agrees with the elements stepped one by one from `s`: both come to the same
fault, or both to the same state (R9: a call evaluates the callee's pseudocode in place). -/
def AgreesWithSteps (o : Host.Outcome State Fault Refusal) (s : State) : Prop :=
  ∃ t u, o = .next t ∧ StepsTo s u ∧
    ((t.fsm = .fault ∧ u.fsm = .fault ∧ u.err = t.err) ∨ (t.fsm ≠ .fault ∧ u = t))

/-! ### The invariant of a run -/

/-- A run that has not faulted, between two steps. -/
structure State.Running (s : State) : Prop where
  /-- A block decoder is running exactly in DISPATCHING (46_decode_loop.md R261). -/
  phaseByFsm : s.phase = .idle ↔ s.fsm ≠ .dispatching
  /-- The two phases that end inside a step are not left standing. -/
  phaseFetches : s.phase ≠ .buildClt ∧ s.phase ≠ .returned
  /-- `IN` in canonical form, nothing listed beyond `IN_LEN` (10_state.md R21). -/
  inputForm : s.input.wf = true ∧ s.input.within s.inLen = true
  /-- `OUT` in canonical form, nothing listed beyond `OUT_LEN` (10_state.md R23). -/
  outForm : s.out.wf = true ∧ s.out.within s.outLen = true
  /-- `CUR <= 8*IN_LEN` (10_state.md R22). -/
  cursor : s.cur ≤ 8 * s.inLen
  /-- The tables have their sizes (10_state.md R30 to R32, R36). -/
  tableSizes : s.clcl.length = clSize ∧ s.llcl.length = llSize ∧ s.dcl.length = dSize ∧
    s.blCount.length = maxBits + 1 ∧ s.nextCode.length = maxBits + 1
  /-- The code lengths are in range (10_state.md R30 to R32). -/
  lengthRanges : (∀ l ∈ s.clcl, l ≤ 7) ∧ (∀ l ∈ s.llcl, l ≤ maxBits) ∧ (∀ l ∈ s.dcl, l ≤ maxBits)
  /-- The header registers do not exceed their ranges (10_state.md R27, R29). -/
  headerRanges : s.btype ≤ 3 ∧ s.hlit ≤ llSize ∧ s.hdist ≤ dSize ∧ s.hclen ≤ clSize
  /-- `HLIT` is in its range once it is read (10_state.md R29). -/
  hlitRead : s.phase = .hdist ∨ s.phase = .hclen ∨ s.phase = .clcl ∨ s.phase = .codeLengths → 257 ≤ s.hlit
  /-- `HDIST` is in its range once it is read (10_state.md R29). -/
  hdistRead : s.phase = .hclen ∨ s.phase = .clcl ∨ s.phase = .codeLengths → 1 ≤ s.hdist
  /-- `HCLEN` is in its range once it is read (10_state.md R29). -/
  hclenRead : s.phase = .clcl → 4 ≤ s.hclen
  /-- While lengths are read there is a code-length tree, and lengths are missing (44_dynamic.md R196). -/
  codeLengths : s.phase = .codeLengths → s.clt.built clSize = true ∧ s.cli < s.seqLen s.seqTable
  /-- While the expander runs it has its trees (45_lz77.md R220). -/
  expander : s.phase = .expand ∨ s.phase = .distance →
    s.llt.built llSize = true ∧ (s.dtPresent = true → s.dt.built dSize = true)
  /-- A match that waits for its distance has a length (10_state.md R37). -/
  matchLength : s.phase = .distance → 3 ≤ s.length ∧ s.length ≤ 258
  /-- No tree outlives its block (10_state.md R35, 70_reset_and_hazards.md R317). -/
  noTrees : s.fsm ≠ .dispatching → s.clt = .none ∧ s.llt = .none ∧ s.dt = .none

/-- The invariant of a run the host does not interfere with (20_memory.md R80): `ERR` is a cause exactly
in FAULT (10_state.md R25), and until then the run is in order. Nothing but `ERR` is said of a faulted
state (60_exceptions.md R292). -/
structure State.Inv (s : State) : Prop where
  /-- The port is empty: no operation is asked for from outside (log 8). -/
  portEmpty : s.port = Option.none
  /-- `ERR != NONE` exactly when `FSM = FAULT` (10_state.md R25). -/
  errByFsm : s.err ≠ .none ↔ s.fsm = .fault
  /-- Until a fault, the run is in order. -/
  running : s.fsm ≠ .fault → s.Running

end Sys2Proof.Machine
end

