-- ==== Sys2Proof/WellFormed.lean ====
section
/-! DEFINITION. WellFormed.lean: the bounds the spec puts on an instruction's operands.

Only RB.BYTES has one: `n` is `LEN`, 0..65535 (20_memory.md R71, 40_bitreader.md R134). RB.MSB and RB.LSB
are defined for every natural `n` (R137); LAUNCH takes a byte sequence of any length (R260); every other
operand is a member of a finite type. -/

namespace Sys2Proof

/-- An operand is in the range the spec gives it. -/
def Instr.wellFormed (i : Instr) : Bool :=
  match i with
  | .blkStored _ => true
  | .blkFixed _ => true
  | .blkDynamic _ => true
  | .blkReserved _ => true
  | .stHdr => true
  | .dhHlit => true
  | .dhHdist => true
  | .dhHclen => true
  | .dhClcl => true
  | .rbBit => true
  | .rbMsb _ => true
  | .rbLsb _ => true
  | .rbBytes n => decide (n ≤ 65535)
  | .rbAlign => true
  | .htBuild _ => true
  | .htDecode _ => true
  | .clseq _ => true
  | .expand => true
  | .copy => true
  | .launch _ => true
  | .blkHdr => true
  | .result => true
  | .clLen0 => true
  | .clLen1 => true
  | .clLen2 => true
  | .clLen3 => true
  | .clLen4 => true
  | .clLen5 => true
  | .clLen6 => true
  | .clLen7 => true
  | .clLen8 => true
  | .clLen9 => true
  | .clLen10 => true
  | .clLen11 => true
  | .clLen12 => true
  | .clLen13 => true
  | .clLen14 => true
  | .clLen15 => true
  | .clRep16 => true
  | .clZero17 => true
  | .clZero18 => true
  | .d0 => true
  | .d1 => true
  | .d2 => true
  | .d3 => true
  | .d4 => true
  | .d5 => true
  | .d6 => true
  | .d7 => true
  | .d8 => true
  | .d9 => true
  | .d10 => true
  | .d11 => true
  | .d12 => true
  | .d13 => true
  | .d14 => true
  | .d15 => true
  | .d16 => true
  | .d17 => true
  | .d18 => true
  | .d19 => true
  | .d20 => true
  | .d21 => true
  | .d22 => true
  | .d23 => true
  | .d24 => true
  | .d25 => true
  | .d26 => true
  | .d27 => true
  | .d28 => true
  | .d29 => true
  | .d30 => true
  | .d31 => true
  | .llLit0 => true
  | .llLit1 => true
  | .llLit2 => true
  | .llLit3 => true
  | .llLit4 => true
  | .llLit5 => true
  | .llLit6 => true
  | .llLit7 => true
  | .llLit8 => true
  | .llLit9 => true
  | .llLit10 => true
  | .llLit11 => true
  | .llLit12 => true
  | .llLit13 => true
  | .llLit14 => true
  | .llLit15 => true
  | .llLit16 => true
  | .llLit17 => true
  | .llLit18 => true
  | .llLit19 => true
  | .llLit20 => true
  | .llLit21 => true
  | .llLit22 => true
  | .llLit23 => true
  | .llLit24 => true
  | .llLit25 => true
  | .llLit26 => true
  | .llLit27 => true
  | .llLit28 => true
  | .llLit29 => true
  | .llLit30 => true
  | .llLit31 => true
  | .llLit32 => true
  | .llLit33 => true
  | .llLit34 => true
  | .llLit35 => true
  | .llLit36 => true
  | .llLit37 => true
  | .llLit38 => true
  | .llLit39 => true
  | .llLit40 => true
  | .llLit41 => true
  | .llLit42 => true
  | .llLit43 => true
  | .llLit44 => true
  | .llLit45 => true
  | .llLit46 => true
  | .llLit47 => true
  | .llLit48 => true
  | .llLit49 => true
  | .llLit50 => true
  | .llLit51 => true
  | .llLit52 => true
  | .llLit53 => true
  | .llLit54 => true
  | .llLit55 => true
  | .llLit56 => true
  | .llLit57 => true
  | .llLit58 => true
  | .llLit59 => true
  | .llLit60 => true
  | .llLit61 => true
  | .llLit62 => true
  | .llLit63 => true
  | .llLit64 => true
  | .llLit65 => true
  | .llLit66 => true
  | .llLit67 => true
  | .llLit68 => true
  | .llLit69 => true
  | .llLit70 => true
  | .llLit71 => true
  | .llLit72 => true
  | .llLit73 => true
  | .llLit74 => true
  | .llLit75 => true
  | .llLit76 => true
  | .llLit77 => true
  | .llLit78 => true
  | .llLit79 => true
  | .llLit80 => true
  | .llLit81 => true
  | .llLit82 => true
  | .llLit83 => true
  | .llLit84 => true
  | .llLit85 => true
  | .llLit86 => true
  | .llLit87 => true
  | .llLit88 => true
  | .llLit89 => true
  | .llLit90 => true
  | .llLit91 => true
  | .llLit92 => true
  | .llLit93 => true
  | .llLit94 => true
  | .llLit95 => true
  | .llLit96 => true
  | .llLit97 => true
  | .llLit98 => true
  | .llLit99 => true
  | .llLit100 => true
  | .llLit101 => true
  | .llLit102 => true
  | .llLit103 => true
  | .llLit104 => true
  | .llLit105 => true
  | .llLit106 => true
  | .llLit107 => true
  | .llLit108 => true
  | .llLit109 => true
  | .llLit110 => true
  | .llLit111 => true
  | .llLit112 => true
  | .llLit113 => true
  | .llLit114 => true
  | .llLit115 => true
  | .llLit116 => true
  | .llLit117 => true
  | .llLit118 => true
  | .llLit119 => true
  | .llLit120 => true
  | .llLit121 => true
  | .llLit122 => true
  | .llLit123 => true
  | .llLit124 => true
  | .llLit125 => true
  | .llLit126 => true
  | .llLit127 => true
  | .llLit128 => true
  | .llLit129 => true
  | .llLit130 => true
  | .llLit131 => true
  | .llLit132 => true
  | .llLit133 => true
  | .llLit134 => true
  | .llLit135 => true
  | .llLit136 => true
  | .llLit137 => true
  | .llLit138 => true
  | .llLit139 => true
  | .llLit140 => true
  | .llLit141 => true
  | .llLit142 => true
  | .llLit143 => true
  | .llLit144 => true
  | .llLit145 => true
  | .llLit146 => true
  | .llLit147 => true
  | .llLit148 => true
  | .llLit149 => true
  | .llLit150 => true
  | .llLit151 => true
  | .llLit152 => true
  | .llLit153 => true
  | .llLit154 => true
  | .llLit155 => true
  | .llLit156 => true
  | .llLit157 => true
  | .llLit158 => true
  | .llLit159 => true
  | .llLit160 => true
  | .llLit161 => true
  | .llLit162 => true
  | .llLit163 => true
  | .llLit164 => true
  | .llLit165 => true
  | .llLit166 => true
  | .llLit167 => true
  | .llLit168 => true
  | .llLit169 => true
  | .llLit170 => true
  | .llLit171 => true
  | .llLit172 => true
  | .llLit173 => true
  | .llLit174 => true
  | .llLit175 => true
  | .llLit176 => true
  | .llLit177 => true
  | .llLit178 => true
  | .llLit179 => true
  | .llLit180 => true
  | .llLit181 => true
  | .llLit182 => true
  | .llLit183 => true
  | .llLit184 => true
  | .llLit185 => true
  | .llLit186 => true
  | .llLit187 => true
  | .llLit188 => true
  | .llLit189 => true
  | .llLit190 => true
  | .llLit191 => true
  | .llLit192 => true
  | .llLit193 => true
  | .llLit194 => true
  | .llLit195 => true
  | .llLit196 => true
  | .llLit197 => true
  | .llLit198 => true
  | .llLit199 => true
  | .llLit200 => true
  | .llLit201 => true
  | .llLit202 => true
  | .llLit203 => true
  | .llLit204 => true
  | .llLit205 => true
  | .llLit206 => true
  | .llLit207 => true
  | .llLit208 => true
  | .llLit209 => true
  | .llLit210 => true
  | .llLit211 => true
  | .llLit212 => true
  | .llLit213 => true
  | .llLit214 => true
  | .llLit215 => true
  | .llLit216 => true
  | .llLit217 => true
  | .llLit218 => true
  | .llLit219 => true
  | .llLit220 => true
  | .llLit221 => true
  | .llLit222 => true
  | .llLit223 => true
  | .llLit224 => true
  | .llLit225 => true
  | .llLit226 => true
  | .llLit227 => true
  | .llLit228 => true
  | .llLit229 => true
  | .llLit230 => true
  | .llLit231 => true
  | .llLit232 => true
  | .llLit233 => true
  | .llLit234 => true
  | .llLit235 => true
  | .llLit236 => true
  | .llLit237 => true
  | .llLit238 => true
  | .llLit239 => true
  | .llLit240 => true
  | .llLit241 => true
  | .llLit242 => true
  | .llLit243 => true
  | .llLit244 => true
  | .llLit245 => true
  | .llLit246 => true
  | .llLit247 => true
  | .llLit248 => true
  | .llLit249 => true
  | .llLit250 => true
  | .llLit251 => true
  | .llLit252 => true
  | .llLit253 => true
  | .llLit254 => true
  | .llLit255 => true
  | .llEob => true
  | .llLen257 => true
  | .llLen258 => true
  | .llLen259 => true
  | .llLen260 => true
  | .llLen261 => true
  | .llLen262 => true
  | .llLen263 => true
  | .llLen264 => true
  | .llLen265 => true
  | .llLen266 => true
  | .llLen267 => true
  | .llLen268 => true
  | .llLen269 => true
  | .llLen270 => true
  | .llLen271 => true
  | .llLen272 => true
  | .llLen273 => true
  | .llLen274 => true
  | .llLen275 => true
  | .llLen276 => true
  | .llLen277 => true
  | .llLen278 => true
  | .llLen279 => true
  | .llLen280 => true
  | .llLen281 => true
  | .llLen282 => true
  | .llLen283 => true
  | .llLen284 => true
  | .llLen285 => true
  | .llInvalid286 => true
  | .llInvalid287 => true

end Sys2Proof
end

