-- ==== Sys2Proof/Certificates/Slice0/Obligations.lean ====
section
/-! DEFINITION. Certificates/Slice0/Obligations.lean: the statements for the provers. Each docstring names the rule
of spec/ it formalises; "the model's own" marks what rests on a log entry. The fields `phase`, `seqTable`
(log 5), `port` (log 8), `opResult` (log 9) and `result` (log 7) of State are the model's own wherever a
statement names them. -/

open Sys2Proof Sys2Proof.Machine

/-! ### Launch, result, and what leaves a finished run -/

/-- 10_state.md R41, 70_reset_and_hazards.md R311: the values the spec gives at launch, in State.reset (its
empty input is the model's choice, log 2). The last clause is neither rule's: LSB is this hardware's order by
00_scope.md R5 and 43_fixed.md R182 (decision D1), and that the order is a field of State is log 1
(DEDUCED). -/
def Obligations.ResetHoldsTheLaunchValues : Prop :=
  State.reset.cur = 0 ∧ State.reset.out = [] ∧ State.reset.outLen = 0 ∧
    State.reset.fsm = .readingHeader ∧ State.reset.err = .none ∧
    State.reset.clt = .none ∧ State.reset.llt = .none ∧ State.reset.dt = .none ∧
    State.reset.cfg.fixedDistOrder = .lsb

/-- 46_decode_loop.md R260, 70_reset_and_hazards.md R310: LAUNCH loads its argument and starts from the launch
values whatever came before. Of the model's own are: that LAUNCH ends at READING_HEADER, before the loop runs
(log 21, DEDUCED); that it keeps the configuration (log 1, DEDUCED); and the values of the registers R41 leaves
unspecified, on which the range clauses of `Inv` and the last clause rest (log 3, DESIGN CHOICE). -/
def Obligations.LaunchStartsAFreshRun : Prop :=
  ∀ (bytes : List Byte) (s : State), ∃ t, exec (.launch bytes) s = .next t ∧
    t.input.bytes 0 bytes.length = bytes ∧ t.inLen = bytes.length ∧ t.cur = 0 ∧
    t.outLen = 0 ∧ t.outBytes = [] ∧ t.fsm = .readingHeader ∧ t.err = .none ∧
    t.clt = .none ∧ t.llt = .none ∧ t.dt = .none ∧ t.cfg = s.cfg ∧ t.Inv ∧
    ∀ s' : State, s'.cfg = s.cfg → exec (.launch bytes) s' = .next t

/-- 46_decode_loop.md R266, 10_state.md R42: `Ok(OUT)` in DONE, `Err(ERR)` in FAULT, nothing during a run;
nothing else changes. -/
def Obligations.ResultHandsOverTheOutcome : Prop :=
  ∀ s : State,
    (s.fsm = .done → exec .result s = .next { s with result := some (.ok (s.out.bytes 0 s.outLen)) }) ∧
    (s.fsm = .fault → exec .result s = .next { s with result := some (.err s.err) }) ∧
    (s.fsm ≠ .done → s.fsm ≠ .fault → exec .result s = .next { s with result := none })

/-- 46_decode_loop.md R266, R261, 60_exceptions.md R293: a finished run has no successor but a new launch; a
step of it with nothing at the port delivers the result again and changes nothing else (that it steps at
all is the model's own, log 7). -/
def Obligations.OnlyLaunchLeavesAFinishedRun : Prop :=
  ∀ s : State, s.fsm = .done ∨ s.fsm = .fault →
    (s.port = none → step s = .next { s with result := s.hostResult }) ∧
    ∀ t, step s = .next t →
      (t.fsm = s.fsm ∧ t.err = s.err ∧ t.cur = s.cur ∧ t.out = s.out ∧ t.outLen = s.outLen) ∨
      ∃ w bytes, s.port = some w ∧ decode ⟨.op, w⟩ = .ok (.launch bytes) ∧ t = s.launch bytes

/-! ### Step and fetch -/

/-- A step runs the instruction it fetched, and then the statements that lead to the next element (the
model's own division of the pseudocode, log 5). -/
def Obligations.StepRunsTheFetchedInstruction : Prop :=
  ∀ (s t : State) (w : ElementWord) (i : Instr), fetch s = .ok w t → decode w = .ok i →
    step s = match exec i t with
      | .next u => perform settle u
      | .fault r => .fault r
      | .refused r => .refused r

/-- 46_decode_loop.md R262, R265, 30_encoding.md R91, R97, R99, R107, 45_lz77.md R220, R228, 43_fixed.md R182,
44_dynamic.md R196: what is fetched at each place of the decode loop, and what fetching it writes: three header
bits at READING_HEADER, nothing for a field group, a code of `CLT`, `LLT` or `DT` or the raw distance field for a
symbol. A fetch that finds too few bits faults: fewer than three at READING_HEADER and fewer than five for the
raw field raise StreamTruncated, and a code raises what HT.DECODE raises there. `phase` is the model's own
(log 5), and so are the order kept in State (log 1) and the RESULT that a finished run has left (log 7). -/
def Obligations.FetchFollowsTheDecodeLoop : Prop :=
  ∀ s : State, s.port = none →
    (s.fsm = .readingHeader → s.hasBits 3 →
      fetch s = .ok ⟨.bh, s.input.bit s.cur + 2 * (s.input.bit (s.cur + 1) + 2 * s.input.bit (s.cur + 2))⟩
        { s with cur := s.cur + 3 }) ∧
    (s.fsm = .readingHeader → ¬ s.hasBits 3 → Raises (step s) .streamTruncated) ∧
    (s.fsm = .dispatching →
      (s.phase = .storedBody → fetch s = .ok ⟨.st, 0⟩ s) ∧
      (s.phase = .hlit → fetch s = .ok ⟨.dh, 0⟩ s) ∧
      (s.phase = .hdist → fetch s = .ok ⟨.dh, 5⟩ s) ∧
      (s.phase = .hclen → fetch s = .ok ⟨.dh, 10⟩ s) ∧
      (s.phase = .clcl → fetch s = .ok ⟨.cll, 0⟩ s) ∧
      (s.phase = .codeLengths → ∀ l sym, s.codeAhead s.clt l sym →
        fetch s = .ok ⟨.cl, sym⟩ { s with cur := s.cur + l, clsym := sym }) ∧
      (s.phase = .expand → ∀ l sym, s.codeAhead s.llt l sym →
        fetch s = .ok ⟨.ll, sym⟩ { s with cur := s.cur + l, sym := sym }) ∧
      (s.phase = .distance → s.dtPresent = true → ∀ l code, s.codeAhead s.dt l code →
        fetch s = .ok ⟨.d, code⟩ { s with cur := s.cur + l, dcode := code }) ∧
      (∀ c : Cause,
        (s.phase = .codeLengths → Raises (exec (.htDecode .clt) s) c → Raises (step s) c) ∧
        (s.phase = .expand → Raises (exec (.htDecode .llt) s) c → Raises (step s) c) ∧
        (s.phase = .distance → s.dtPresent = true →
          Raises (exec (.htDecode .dt) s) c → Raises (step s) c)) ∧
      (s.phase = .distance → s.dtPresent = false → ¬ s.hasBits 5 → Raises (step s) .streamTruncated) ∧
      (s.phase = .distance → s.dtPresent = false → s.hasBits 5 →
        fetch s = .ok ⟨.d, if s.cfg.fixedDistOrder = .lsb then s.input.lsbField s.cur 5
            else s.input.msbField s.cur 5⟩
          { s with cur := s.cur + 5,
                   dcode := if s.cfg.fixedDistOrder = .lsb then s.input.lsbField s.cur 5
                     else s.input.msbField s.cur 5 })) ∧
    (s.fsm = .done ∨ s.fsm = .fault → fetch s = .ok ⟨.op, 12⟩ s)

/-- The port of the model (log 8): an operation word that waits there is fetched before anything else, but
a finished run takes only LAUNCH and RESULT. -/
def Obligations.PortOperationIsFetchedFirst : Prop :=
  ∀ (s : State) (w : Nat), s.port = some w →
    ((s.fsm = .readingHeader ∨ s.fsm = .dispatching ∨ w % 256 = 10 ∨ w % 256 = 12) →
      fetch s = .ok ⟨.op, w⟩ { s with port := none }) ∧
    ((s.fsm = .done ∨ s.fsm = .fault) → w % 256 ≠ 10 → w % 256 ≠ 12 → step s = .refused .runIsOver)

/-- 60_exceptions.md R285, 45_lz77.md R226, R231: a decoded literal/length value above 287, or a distance code
above 31, is an InvalidSymbol like 286, 287, 30 and 31. -/
def Obligations.SymbolsOutsideTheirAlphabetFault : Prop :=
  ∀ (s t : State) (n : Nat),
    (286 ≤ n → fetch s = .ok ⟨.ll, n⟩ t → Raises (step s) .invalidSymbol) ∧
    (30 ≤ n → fetch s = .ok ⟨.d, n⟩ t → Raises (step s) .invalidSymbol)

/-! ### The BitReader -/

/-- 40_bitreader.md R131: bit `CUR mod 8` of byte `CUR div 8`, counted from the least significant, and the
cursor goes on by one; at the end of the input it raises StreamTruncated. What an operation run on its own
returns stands in `opResult`, the model's own (log 9), here and below. -/
def Obligations.RbBitReadsTheCursorBit : Prop :=
  ∀ s : State,
    (s.cur < 8 * s.inLen → exec .rbBit s = .next { s with
      cur := s.cur + 1, opResult := .value ((s.input.read (s.cur / 8)).toNat / 2 ^ (s.cur % 8) % 2) }) ∧
    (8 * s.inLen ≤ s.cur → Raises (exec .rbBit s) .streamTruncated)

/-- 40_bitreader.md R133, R136, R137: for every `n`, with `n` bits left RB.LSB consumes them and returns the value
whose bit `i` is the `i`-th of them; with fewer it raises StreamTruncated. -/
def Obligations.RbLsbAssemblesFromBitZero : Prop :=
  ∀ (n : Nat) (s : State), s.cur ≤ 8 * s.inLen →
    (s.cur + n ≤ 8 * s.inLen → exec (.rbLsb n) s = .next { s with
      cur := s.cur + n,
      opResult := .value ((List.range n).map fun i => s.input.bit (s.cur + i) * 2 ^ i).sum }) ∧
    (8 * s.inLen < s.cur + n → Raises (exec (.rbLsb n) s) .streamTruncated)

/-- 40_bitreader.md R132, R136, R137: for every `n`, with `n` bits left RB.MSB consumes them and returns the value
whose bit `n-1-i` is the `i`-th of them; with fewer it raises StreamTruncated. -/
def Obligations.RbMsbAssemblesFromTheTop : Prop :=
  ∀ (n : Nat) (s : State), s.cur ≤ 8 * s.inLen →
    (s.cur + n ≤ 8 * s.inLen → exec (.rbMsb n) s = .next { s with
      cur := s.cur + n,
      opResult := .value ((List.range n).map fun i => s.input.bit (s.cur + i) * 2 ^ (n - 1 - i)).sum }) ∧
    (8 * s.inLen < s.cur + n → Raises (exec (.rbMsb n) s) .streamTruncated)

/-- 40_bitreader.md R134, 20_memory.md R70: raw bytes from an aligned cursor, the bound tested first; an
unaligned call is refused. Where the bytes go when the operation runs on its own is the model's (log 9). -/
def Obligations.RbBytesTakesWholeBytes : Prop :=
  ∀ (n : Nat) (s : State),
    (s.cur % 8 = 0 → s.cur / 8 + n ≤ s.inLen → exec (.rbBytes n) s = .next { s with
      cur := s.cur + 8 * n,
      opResult := .bytes ((List.range n).map fun i => s.input.read (s.cur / 8 + i)) }) ∧
    (s.cur % 8 = 0 → s.inLen < s.cur / 8 + n → Raises (exec (.rbBytes n) s) .streamTruncated) ∧
    (s.cur % 8 ≠ 0 → exec (.rbBytes n) s = .refused .unalignedBytes)

/-- 40_bitreader.md R135: RB.ALIGN moves the cursor to the next multiple of 8, not at all if it stands on one,
and never beyond the input. -/
def Obligations.RbAlignGoesToTheNextByte : Prop :=
  ∀ s : State, ∃ c, exec .rbAlign s = .next { s with cur := c, opResult := .nothing } ∧
    c % 8 = 0 ∧ s.cur ≤ c ∧ c < s.cur + 8 ∧ (s.cur ≤ 8 * s.inLen → c ≤ 8 * s.inLen)

/-- 40_bitreader.md R138, which the spec derives from R131 to R133: (a) RB.MSB and RB.LSB consume the same bits and return reversals of each other; (b) two
RB.LSB reads in a row are one, the first the low part; (c) two RB.MSB reads in a row are one, the first the
high part; (d) no primitive moves the cursor back. -/
def Obligations.BitReaderLaws : Prop :=
  (∀ (n : Nat) (s : State), s.hasBits n → ∃ v w t, rbLsb n s = .ok v t ∧ rbMsb n s = .ok w t ∧
    t.cur = s.cur + n ∧ v < 2 ^ n ∧ w < 2 ^ n ∧ ∀ i, i < n → v.testBit i = w.testBit (n - 1 - i)) ∧
  (∀ (a b : Nat) (s : State), s.hasBits (a + b) → ∃ lo hi t u,
    rbLsb a s = .ok lo t ∧ rbLsb b t = .ok hi u ∧ rbLsb (a + b) s = .ok (lo + hi * 2 ^ a) u) ∧
  (∀ (a b : Nat) (s : State), s.hasBits (a + b) → ∃ hi lo t u,
    rbMsb a s = .ok hi t ∧ rbMsb b t = .ok lo u ∧ rbMsb (a + b) s = .ok (hi * 2 ^ b + lo) u) ∧
  (∀ (n : Nat) (s t : State) (v : Nat) (data : List Byte),
    (rbBit s = .ok v t → s.cur ≤ t.cur) ∧ (rbMsb n s = .ok v t → s.cur ≤ t.cur) ∧
    (rbLsb n s = .ok v t → s.cur ≤ t.cur) ∧ (rbBytes n s = .ok data t → s.cur ≤ t.cur) ∧
    (rbAlign s = .ok () t → s.cur ≤ t.cur))

/-! ### Huffman trees -/

/-- 41_huffman.md R153: HT.BUILD faults exactly on an over-subscribed table; an incomplete one, the all-zero
one included, is built. -/
def Obligations.BuildFaultsExactlyOnOverSubscribedTables : Prop :=
  ∀ (t : TreeSel) (s : State), (∀ l ∈ s.lengthsOf t, l ≤ 15) →
    (2 ^ 15 < (((s.lengthsOf t).filter fun l => l ≠ 0).map fun l => 2 ^ (15 - l)).sum →
      Raises (exec (.htBuild t) s) .malformedHuffmanTable) ∧
    ((((s.lengthsOf t).filter fun l => l ≠ 0).map fun l => 2 ^ (15 - l)).sum ≤ 2 ^ 15 →
      ∃ u, exec (.htBuild t) s = .next u ∧ u.fsm = s.fsm ∧ u.err = s.err ∧ u.cur = s.cur ∧
        u.tree t ≠ .none ∧ ((∀ l ∈ s.lengthsOf t, l = 0) → u.tree t = .node .none .none none))

/-- 41_huffman.md R151, R152, R154: `BL_COUNT`, the first codes (R152), and `NEXT_CODE` after step 3 (R154),
within `2^L` (marked [derived] in R152); nothing but the builder's registers and the tree changes. -/
def Obligations.BuildCountsAndNumbersTheCodes : Prop :=
  ∀ (t : TreeSel) (s : State), acceptable (s.lengthsOf t) →
    ∃ (u : State) (first : Nat → Nat), exec (.htBuild t) s = .next u ∧
      u = State.setTree { s with blCount := u.blCount, nextCode := u.nextCode, code := u.code } t (u.tree t) ∧
      u.blCount.getD 0 0 = 0 ∧
      (∀ l, 1 ≤ l → l ≤ 15 → u.blCount.getD l 0 = (s.lengthsOf t).count l) ∧
      first 1 = 0 ∧ (∀ l, 1 ≤ l → l < 15 → first (l + 1) = (first l + (s.lengthsOf t).count l) * 2) ∧
      (∀ l, 1 ≤ l → l ≤ 15 → u.nextCode.getD l 0 = first l + (s.lengthsOf t).count l ∧
        first l + (s.lengthsOf t).count l ≤ 2 ^ l) ∧
      u.code = first 15

/-- 41_huffman.md R155: a symbol's path from the root is its canonical code, most significant bit first, of
its assigned length; every symbol stands on a leaf, every leaf but an empty root has a symbol, and no symbol
of length 0 is in the tree; the number of nodes is bounded (of these the spec states the path, and derives
the rest). -/
def Obligations.BuiltTreePathsAreTheCanonicalCodes : Prop :=
  ∀ (t : TreeSel) (s : State), acceptable (s.lengthsOf t) →
    ∃ u, exec (.htBuild t) s = .next u ∧
      (∀ sym, sym < (s.lengthsOf t).length → (s.lengthsOf t).getD sym 0 ≠ 0 →
        canonicalCode (s.lengthsOf t) sym < 2 ^ (s.lengthsOf t).getD sym 0 ∧
        (u.tree t).follow ((s.lengthsOf t).getD sym 0) (canonicalCode (s.lengthsOf t) sym) = Tree.leaf sym) ∧
      (∀ l c x y sym, (u.tree t).follow l c = .node x y (some sym) →
        x = .none ∧ y = .none ∧ sym < (s.lengthsOf t).length ∧ l ≠ 0 ∧ (s.lengthsOf t).getD sym 0 = l ∧
        c % 2 ^ l = canonicalCode (s.lengthsOf t) sym) ∧
      (∀ l c, l ≠ 0 → (u.tree t).follow l c ≠ .node .none .none none) ∧
      (u.tree t).nodes ≤ 1 + (s.lengthsOf t).sum

/-- 41_huffman.md R156: the symbol whose path the next bits spell is returned, and exactly those bits are
consumed. -/
def Obligations.DecodeReturnsTheSymbolAhead : Prop :=
  ∀ (t : TreeSel) (s : State) (l sym : Nat), s.codeAhead (s.tree t) l sym →
    exec (.htDecode t) s = .next { s with cur := s.cur + l, opResult := .value sym }

/-- 41_huffman.md R159, which the spec derives from R155: on a built tree a successful decode consumes exactly `CL[s]` bits, between 1 and 15,
and those bits accumulated MSB-first are the code of the symbol. -/
def Obligations.DecodeConsumesExactlyTheCode : Prop :=
  ∀ (t : TreeSel) (s u v : State) (sym : Nat), acceptable (s.lengthsOf t) →
    exec (.htBuild t) s = .next u → htDecode t u = .ok sym v →
    v = { u with cur := v.cur } ∧ 1 ≤ (s.lengthsOf t).getD sym 0 ∧ (s.lengthsOf t).getD sym 0 ≤ 15 ∧
      v.cur = u.cur + (s.lengthsOf t).getD sym 0 ∧
      u.input.msbField u.cur ((s.lengthsOf t).getD sym 0) = canonicalCode (s.lengthsOf t) sym

/-- 41_huffman.md R157, R158, R160: an empty root is malformed before any bit is read; at a node with a child
a bit is read first, and then a missing child is malformed. -/
def Obligations.DecodeFaultsInTheOrderOfTheDescent : Prop :=
  ∀ (t : TreeSel) (s : State) (l : Nat) (x y : Tree) (sym : Option Nat),
    (s.tree t = .node .none .none none → Raises (exec (.htDecode t) s) .malformedHuffmanTable) ∧
    (s.hasBits l → (s.tree t).follow l (s.input.msbField s.cur l) = .node x y sym →
      (¬ s.hasBits (l + 1) → (x ≠ .none ∨ y ≠ .none) →
        Raises (exec (.htDecode t) s) .streamTruncated) ∧
      (s.hasBits (l + 1) → s.input.bit (s.cur + l) = 0 → x = .none → y ≠ .none →
        Raises (exec (.htDecode t) s) .malformedHuffmanTable) ∧
      (s.hasBits (l + 1) → s.input.bit (s.cur + l) = 1 → y = .none → x ≠ .none →
        Raises (exec (.htDecode t) s) .malformedHuffmanTable))

/-! ### Block headers and the stored block -/

/-- 46_decode_loop.md R262, R263, for the rows BLK.STORED and BLK.DYNAMIC: the header registers and `FSM` are
written, the block's own elements come next, nothing else changes. -/
def Obligations.StoredAndDynamicHeadersEnterTheirBlock : Prop :=
  ∀ (f : Bool) (s : State),
    exec (.blkStored f) s = .next { s with
      bfinal := f, btype := 0, fsm := .dispatching, phase := .storedBody } ∧
    exec (.blkDynamic f) s = .next { s with
      bfinal := f, btype := 2, fsm := .dispatching, phase := .hlit }

/-- 43_fixed.md R180, R181, 30_encoding.md R101: a fixed block never faults at its header (marked [derived] in
R181); `LLCL` is FIXED_LL (R180), `LLT` holds the codes of R101 (marked [derived]), `DT_PRESENT` is 0 (R181),
and nothing else but the builder's registers and the model's `phase` (log 5) changes. -/
def Obligations.FixedBlockBuildsTheFixedCode : Prop :=
  ∀ (f : Bool) (s : State), ∃ t, exec (.blkFixed f) s = .next t ∧
    t = { s with bfinal := f, btype := 1, fsm := .dispatching, phase := t.phase, dtPresent := false,
                 llcl := t.llcl, llt := t.llt, blCount := t.blCount, nextCode := t.nextCode, code := t.code } ∧
    t.llcl.length = 288 ∧
    (∀ sym, sym ≤ 143 → t.llcl.getD sym 0 = 8 ∧ t.llt.follow 8 (0x30 + sym) = Tree.leaf sym) ∧
    (∀ sym, 144 ≤ sym → sym ≤ 255 →
      t.llcl.getD sym 0 = 9 ∧ t.llt.follow 9 (0x190 + (sym - 144)) = Tree.leaf sym) ∧
    (∀ sym, 256 ≤ sym → sym ≤ 279 →
      t.llcl.getD sym 0 = 7 ∧ t.llt.follow 7 (sym - 256) = Tree.leaf sym) ∧
    (∀ sym, 280 ≤ sym → sym ≤ 287 →
      t.llcl.getD sym 0 = 8 ∧ t.llt.follow 8 (0xC0 + (sym - 280)) = Tree.leaf sym)

/-- 46_decode_loop.md R264: BTYPE 3 raises ReservedBlockType in any block, and nothing after the three header
bits is needed. -/
def Obligations.ReservedBlockTypeFaults : Prop :=
  (∀ (f : Bool) (s : State), Raises (exec (.blkReserved f) s) .reservedBlockType) ∧
  ∀ s : State, s.port = none → s.fsm = .readingHeader → s.hasBits 3 →
    s.input.bit (s.cur + 1) = 1 → s.input.bit (s.cur + 2) = 1 → Raises (step s) .reservedBlockType

/-- 42_stored.md R170, R171, 20_memory.md R67, R68: alignment, the two words, the complement check, the bounds
of the copy, in this order; then `LEN` bytes verbatim. `k` is the byte the aligned cursor stands on. -/
def Obligations.StoredBodyCopiesVerbatim : Prop :=
  ∀ (s : State) (k len nlen : Nat), s.cur ≤ 8 * s.inLen → k = (s.cur + 7) / 8 →
    len = (s.input.read k).toNat + 256 * (s.input.read (k + 1)).toNat →
    nlen = (s.input.read (k + 2)).toNat + 256 * (s.input.read (k + 3)).toNat →
    (s.inLen < k + 4 → Raises (exec .stHdr s) .streamTruncated) ∧
    (k + 4 ≤ s.inLen → len ^^^ nlen ≠ 0xFFFF → Raises (exec .stHdr s) .storedBlockLengthMismatch) ∧
    (k + 4 ≤ s.inLen → len ^^^ nlen = 0xFFFF → s.inLen < k + 4 + len →
      Raises (exec .stHdr s) .streamTruncated) ∧
    (k + 4 + len ≤ s.inLen → len ^^^ nlen = 0xFFFF → ∃ t, exec .stHdr s = .next t ∧
      t = { s with cur := 8 * (k + 4 + len), len := BitVec.ofNat 16 len, nlen := BitVec.ofNat 16 nlen,
                   out := t.out, outLen := s.outLen + len, phase := t.phase } ∧
      (∀ i, i < len → t.out.read (s.outLen + i) = s.input.read (k + 4 + i)) ∧
      (∀ a, a < s.outLen ∨ s.outLen + len ≤ a → t.out.read a = s.out.read a))

/-- 46_decode_loop.md R265, 10_state.md R35: after a block decoder returns, `BFINAL` decides between DONE and
the next header, and the trees of the block are gone (that the three registers are emptied in this step is
log 19, DEDUCED). -/
def Obligations.BlockEndGoesByBfinal : Prop :=
  ∀ s : State, s.over = false → s.phase = .returned → perform settle s = .next { s with
    fsm := if s.bfinal then .done else .readingHeader, phase := .idle,
    clt := .none, llt := .none, dt := .none }

/-! ### The dynamic header -/

/-- 44_dynamic.md R191 to R193: `HLIT` is 5 LSB-first bits plus 257, `HDIST` 5 plus 1, `HCLEN` 4 plus 4, in the
ranges 257..288, 1..32 and 4..19 with no value rejected; missing bits raise StreamTruncated. -/
def Obligations.DynamicHeaderCountsAreBiased : Prop :=
  ∀ s : State, s.cur ≤ 8 * s.inLen →
    (s.hasBits 5 → ∃ p, exec .dhHlit s = .next { s with
      cur := s.cur + 5, hlit := s.input.lsbField s.cur 5 + 257, phase := p }) ∧
    (¬ s.hasBits 5 → Raises (exec .dhHlit s) .streamTruncated) ∧
    (s.hasBits 5 → ∃ p, exec .dhHdist s = .next { s with
      cur := s.cur + 5, hdist := s.input.lsbField s.cur 5 + 1, phase := p }) ∧
    (¬ s.hasBits 5 → Raises (exec .dhHdist s) .streamTruncated) ∧
    (s.hasBits 4 → ∃ p, exec .dhHclen s = .next { s with
      cur := s.cur + 4, hclen := s.input.lsbField s.cur 4 + 4, phase := p }) ∧
    (¬ s.hasBits 4 → Raises (exec .dhHclen s) .streamTruncated) ∧
    s.input.lsbField s.cur 5 + 257 ≤ 288 ∧ s.input.lsbField s.cur 5 + 1 ≤ 32 ∧
    s.input.lsbField s.cur 4 + 4 ≤ 19

/-- 44_dynamic.md R194, 30_encoding.md R95: the i-th 3-bit length belongs to symbol ORDER[i], the unlisted
symbols have length 0. -/
def Obligations.CodeLengthLengthsComeInOrder : Prop :=
  ∀ s : State, s.cur ≤ 8 * s.inLen → s.hclen ≤ 19 →
    (s.hasBits (3 * s.hclen) → ∃ t, exec .dhClcl s = .next t ∧
      t = { s with cur := s.cur + 3 * s.hclen, clcl := t.clcl, phase := t.phase } ∧ t.clcl.length = 19 ∧
      ∀ i, i < 19 → t.clcl.getD
        ([16, 17, 18, 0, 8, 7, 9, 6, 10, 5, 11, 4, 12, 3, 13, 2, 14, 1, 15].getD i 0) 0 =
          if i < s.hclen then s.input.lsbField (s.cur + 3 * i) 3 else 0) ∧
    (¬ s.hasBits (3 * s.hclen) → Raises (exec .dhClcl s) .streamTruncated)

/-- 44_dynamic.md R195, R196, R201, R203, R204, R206: what happens between the elements of a dynamic block:
`CLT` is built after its lengths; a complete literal/length sequence has its unused entries cleared and the
distance sequence begins afresh; after that one `LLT` is built, then `DT`. -/
def Obligations.DynamicBlockGoesOnBetweenElements : Prop :=
  ∀ s : State, s.over = false →
    (s.phase = .buildClt →
      (∀ u, htBuild .clt s = .ok () u → perform settle s = .next { u with
        seqTable := .ll, cli := 0, phase := .codeLengths }) ∧
      (∀ c u, htBuild .clt s = .error (.raise c) u → Raises (perform settle s) c)) ∧
    (s.phase = .codeLengths → s.cli < s.seqLen s.seqTable → perform settle s = .next s) ∧
    (s.phase = .codeLengths → s.seqTable = .ll → s.hlit ≤ s.cli → s.hlit ≤ s.llcl.length →
      ∃ t, perform settle s = .next t ∧ t = { s with llcl := t.llcl, seqTable := .d, cli := 0 } ∧
        ∀ i, t.llcl.getD i 0 = if i < s.hlit then s.llcl.getD i 0 else 0) ∧
    (s.phase = .codeLengths → s.seqTable = .d → s.hdist ≤ s.cli →
      (∀ u v, htBuild .llt s = .ok () u → htBuild .dt u = .ok () v →
        perform settle s = .next { v with dtPresent := true, phase := .expand }) ∧
      (∀ c u, htBuild .llt s = .error (.raise c) u → Raises (perform settle s) c) ∧
      (∀ c u v, htBuild .llt s = .ok () u → htBuild .dt u = .error (.raise c) v →
        Raises (perform settle s) c))

/-! ### Code-length symbols -/

/-- 44_dynamic.md R197: symbols 0..15 emit their own value once. -/
def Obligations.LiteralLengthsAreEmittedOnce : Prop :=
  ∀ (k : Nat) (i : Instr), k ≤ 15 → decode ⟨.cl, k⟩ = .ok i → ∀ s : State,
    (s.seqTable = .ll → exec i s = .next { s with llcl := s.llcl.set s.cli k, cli := s.cli + 1 }) ∧
    (s.seqTable = .d → exec i s = .next { s with dcl := s.dcl.set s.cli k, cli := s.cli + 1 })

/-- 44_dynamic.md R198, R202: symbol 16 repeats the previous emitted length 3 to 6 times; the fault of an empty
sequence comes before the extra bits, the overflow after them. -/
def Obligations.Rep16RepeatsThePreviousLength : Prop :=
  ∀ s : State, s.cur ≤ 8 * s.inLen → s.seqLen s.seqTable ≤ s.seqSize →
    (s.cli = 0 → Raises (exec .clRep16 s) .codeLengthRepeatWithoutPrevious) ∧
    (0 < s.cli → ¬ s.hasBits 2 → Raises (exec .clRep16 s) .streamTruncated) ∧
    (0 < s.cli → s.hasBits 2 → s.seqLen s.seqTable < s.cli + (3 + s.input.lsbField s.cur 2) →
      Raises (exec .clRep16 s) .codeLengthRunOverflow) ∧
    (0 < s.cli → s.hasBits 2 → s.cli + (3 + s.input.lsbField s.cur 2) ≤ s.seqLen s.seqTable →
      ∃ t, exec .clRep16 s = .next t ∧
        RunEmitted s t (s.seqEntry (s.cli - 1)) (3 + s.input.lsbField s.cur 2) 2)

/-- 44_dynamic.md R199, R200, R202: symbols 17 and 18 emit 3 to 10 and 11 to 138 zeros, also at the start of a
sequence. -/
def Obligations.ZeroRunsEmitZeros : Prop :=
  ∀ s : State, s.cur ≤ 8 * s.inLen → s.seqLen s.seqTable ≤ s.seqSize →
    (¬ s.hasBits 3 → Raises (exec .clZero17 s) .streamTruncated) ∧
    (s.hasBits 3 → s.seqLen s.seqTable < s.cli + (3 + s.input.lsbField s.cur 3) →
      Raises (exec .clZero17 s) .codeLengthRunOverflow) ∧
    (s.hasBits 3 → s.cli + (3 + s.input.lsbField s.cur 3) ≤ s.seqLen s.seqTable →
      ∃ t, exec .clZero17 s = .next t ∧ RunEmitted s t 0 (3 + s.input.lsbField s.cur 3) 3) ∧
    (¬ s.hasBits 7 → Raises (exec .clZero18 s) .streamTruncated) ∧
    (s.hasBits 7 → s.seqLen s.seqTable < s.cli + (11 + s.input.lsbField s.cur 7) →
      Raises (exec .clZero18 s) .codeLengthRunOverflow) ∧
    (s.hasBits 7 → s.cli + (11 + s.input.lsbField s.cur 7) ≤ s.seqLen s.seqTable →
      ∃ t, exec .clZero18 s = .next t ∧ RunEmitted s t 0 (11 + s.input.lsbField s.cur 7) 7)

/-- 44_dynamic.md R196, on the sequence of one length (`HDIST = 1`, the shortest the header allows): CLSEQ
decodes one literal length and is done; a first symbol 16 faults. `seqTable` is the model's own (log 5). -/
def Obligations.ClseqReadsASequenceOfOne : Prop :=
  ∀ (s : State) (l k : Nat), s.hdist = 1 → s.codeAhead s.clt l k →
    (k ≤ 15 → exec (.clseq .d) s = .next { s with
      cur := s.cur + l, clsym := k, seqTable := .d, dcl := s.dcl.set 0 k, cli := 1 }) ∧
    (k = 16 → Raises (exec (.clseq .d) s) .codeLengthRepeatWithoutPrevious)

/-! ### Literal/length symbols -/

/-- 45_lz77.md R221, 20_memory.md R73: each of the 256 literals appends its byte and changes nothing else. -/
def Obligations.LiteralsAppendTheirByte : Prop :=
  ∀ (k : Nat) (i : Instr), k < 256 → decode ⟨.ll, k⟩ = .ok i → ∀ s : State,
    ∃ t, exec i s = .next t ∧ t = { s with out := t.out, outLen := s.outLen + 1 } ∧
      (t.out.read s.outLen).toNat = k ∧ ∀ a, a ≠ s.outLen → t.out.read a = s.out.read a

/-- 45_lz77.md R222, 46_decode_loop.md R265, R267: the end-of-block symbol ends the block, the cursor stands
after its code, nothing is appended. That the three trees are gone then is 10_state.md R35 (log 19, DEDUCED);
`phase` is the model's own (log 5). -/
def Obligations.EndOfBlockEndsTheBlock : Prop :=
  (∀ s : State, exec .llEob s = .next { s with phase := .returned }) ∧
  ∀ (s : State) (l : Nat), s.port = none → s.fsm = .dispatching → s.phase = .expand →
    s.codeAhead s.llt l 256 → step s = .next { s with
      cur := s.cur + l, sym := 256, fsm := if s.bfinal then .done else .readingHeader,
      phase := .idle, clt := .none, llt := .none, dt := .none }

/-- 45_lz77.md R223 to R225, 30_encoding.md R98: every length symbol sets `LENGTH`, those with extra bits `EBITS`
and `EXTRA` too; missing extra bits raise StreamTruncated; nothing else changes. -/
def Obligations.LengthSymbolsSetLength : Prop :=
  ∀ (k : Nat) (i : Instr), decode ⟨.ll, k⟩ = .ok i → ∀ s : State, s.cur ≤ 8 * s.inLen →
    (257 ≤ k → k ≤ 264 → ∃ p, exec i s = .next { s with length := k - 257 + 3, phase := p }) ∧
    (265 ≤ k → k ≤ 284 → s.hasBits ((k - 257) / 4 - 1) → ∃ p, exec i s = .next { s with
      cur := s.cur + ((k - 257) / 4 - 1),
      ebits := (k - 257) / 4 - 1,
      extra := s.input.lsbField s.cur ((k - 257) / 4 - 1),
      length := 2 ^ ((k - 257) / 4 - 1 + 2) + 2 ^ ((k - 257) / 4 - 1) * ((k - 257) % 4) + 3 +
        s.input.lsbField s.cur ((k - 257) / 4 - 1),
      phase := p }) ∧
    (265 ≤ k → k ≤ 284 → ¬ s.hasBits ((k - 257) / 4 - 1) → Raises (exec i s) .streamTruncated) ∧
    (k = 285 → ∃ p, exec i s = .next { s with length := 258, phase := p })

/-- 45_lz77.md R226, R231, 60_exceptions.md R285: symbols 286 and 287 and distance codes 30 and 31 raise
InvalidSymbol, whatever bits are left. -/
def Obligations.InvalidSymbolsFault : Prop :=
  ∀ s : State, Raises (exec .llInvalid286 s) .invalidSymbol ∧ Raises (exec .llInvalid287 s) .invalidSymbol ∧
    Raises (exec .d30 s) .invalidSymbol ∧ Raises (exec .d31 s) .invalidSymbol

/-- 45_lz77.md R227, R232, both derived by the spec: the tables of extra bits, bases and largest values, row by
row, are what the formulas of R223 to R225 and R229, R230 give. -/
def Obligations.FormulasGiveTheTables : Prop :=
  ((List.range 8).map fun j => shortLength (257 + j)) = [3, 4, 5, 6, 7, 8, 9, 10] ∧
  ((List.range 20).map fun j => (lengthEbits (265 + j), longLength (265 + j) (lengthEbits (265 + j)) 0,
      longLength (265 + j) (lengthEbits (265 + j)) (2 ^ lengthEbits (265 + j) - 1))) =
    [(1, 11, 12), (1, 13, 14), (1, 15, 16), (1, 17, 18), (2, 19, 22), (2, 23, 26), (2, 27, 30), (2, 31, 34),
     (3, 35, 42), (3, 43, 50), (3, 51, 58), (3, 59, 66), (4, 67, 82), (4, 83, 98), (4, 99, 114),
     (4, 115, 130), (5, 131, 162), (5, 163, 194), (5, 195, 226), (5, 227, 258)] ∧
  longestLength = 258 ∧
  ((List.range 4).map shortDistance) = [1, 2, 3, 4] ∧
  ((List.range 26).map fun j => (distanceEbits (4 + j), longDistance (4 + j) (distanceEbits (4 + j)) 0,
      longDistance (4 + j) (distanceEbits (4 + j)) (2 ^ distanceEbits (4 + j) - 1))) =
    [(1, 5, 6), (1, 7, 8), (2, 9, 12), (2, 13, 16), (3, 17, 24), (3, 25, 32), (4, 33, 48), (4, 49, 64),
     (5, 65, 96), (5, 97, 128), (6, 129, 192), (6, 193, 256), (7, 257, 384), (7, 385, 512), (8, 513, 768),
     (8, 769, 1024), (9, 1025, 1536), (9, 1537, 2048), (10, 2049, 3072), (10, 3073, 4096),
     (11, 4097, 6144), (11, 6145, 8192), (12, 8193, 12288), (12, 12289, 16384), (13, 16385, 24576),
     (13, 24577, 32768)]

/-! ### Distance codes and the copy -/

/-- 45_lz77.md R229, R230, R233, R234, R237, 30_encoding.md R99: every valid distance code whose extra bits are
there and whose `DISTANCE` is within the window sets `DISTANCE`, copies the match and changes nothing else. -/
def Obligations.DistanceCodesCompleteTheirMatch : Prop :=
  ∀ (k : Nat) (i : Instr), decode ⟨.d, k⟩ = .ok i → ∀ s : State,
    (k ≤ 3 → k + 1 ≤ s.outLen → ∃ t, exec i s = .next t ∧ CopiedFrom s t s.length (k + 1) ∧
      t = { s with distance := k + 1, out := t.out, outLen := t.outLen, phase := t.phase }) ∧
    (∀ e x d, 4 ≤ k → k ≤ 29 → e = k / 2 - 1 → x = s.input.lsbField s.cur e →
      d = 2 ^ (e + 1) + 2 ^ e * (k % 2) + 1 + x → s.hasBits e → d ≤ s.outLen →
      ∃ t, exec i s = .next t ∧ CopiedFrom s t s.length d ∧
        t = { s with cur := s.cur + e, ebits := e, extra := x, distance := d,
                     out := t.out, outLen := t.outLen, phase := t.phase })

/-- 45_lz77.md R230, R233, R237, 20_memory.md R74: missing extra bits come before the window check, and a
distance beyond the bytes produced raises DistanceTooFar. -/
def Obligations.DistancesBeyondTheWindowFault : Prop :=
  ∀ (k : Nat) (i : Instr), decode ⟨.d, k⟩ = .ok i → ∀ s : State, s.cur ≤ 8 * s.inLen →
    (k ≤ 3 → s.outLen < k + 1 → Raises (exec i s) .distanceTooFar) ∧
    (4 ≤ k → k ≤ 29 → ¬ s.hasBits (k / 2 - 1) → Raises (exec i s) .streamTruncated) ∧
    (∀ e, 4 ≤ k → k ≤ 29 → e = k / 2 - 1 → s.hasBits e →
      s.outLen < 2 ^ (e + 1) + 2 ^ e * (k % 2) + 1 + s.input.lsbField s.cur e →
      Raises (exec i s) .distanceTooFar)

/-- 45_lz77.md R234, R235, 20_memory.md R77: COPY in closed form, overlapping or not. -/
def Obligations.CopyRepeatsTheWindowCyclically : Prop :=
  ∀ s : State, 1 ≤ s.distance → s.distance ≤ s.outLen → ∃ t, exec .copy s = .next t ∧
    CopiedFrom s t s.length s.distance ∧ t = { s with out := t.out, outLen := t.outLen }

/-- The model's own (log 11, log 12): HT.DECODE of a register that holds no tree and COPY with a distance
outside 1..OUT_LEN, which no run calls, are refused. -/
def Obligations.CallsWithoutMeaningAreRefused : Prop :=
  ∀ s : State,
    (∀ t : TreeSel, s.tree t = .none → exec (.htDecode t) s = .refused .noTree) ∧
    (1 ≤ s.length → (s.distance = 0 ∨ s.outLen < s.distance) →
      exec .copy s = .refused .copyOutsideWindow)

/-- The model's own division of the pseudocode (log 5): which element each element leads to. -/
def Obligations.ElementsLeadToTheNext : Prop :=
  ∀ s t : State, t.fsm ≠ .fault →
    (∀ f, exec (.blkStored f) s = .next t → t.phase = .storedBody) ∧
    (∀ f, exec (.blkFixed f) s = .next t → t.phase = .expand) ∧
    (∀ f, exec (.blkDynamic f) s = .next t → t.phase = .hlit) ∧
    (exec .stHdr s = .next t → t.phase = .returned) ∧
    (exec .dhHlit s = .next t → t.phase = .hdist) ∧ (exec .dhHdist s = .next t → t.phase = .hclen) ∧
    (exec .dhHclen s = .next t → t.phase = .clcl) ∧ (exec .dhClcl s = .next t → t.phase = .buildClt) ∧
    (∀ k i, decode ⟨.cl, k⟩ = .ok i → exec i s = .next t → t.phase = s.phase) ∧
    (∀ k i, decode ⟨.ll, k⟩ = .ok i → exec i s = .next t →
      t.phase = if k < 256 then s.phase else if k = 256 then .returned else .distance) ∧
    (∀ k i, decode ⟨.d, k⟩ = .ok i → exec i s = .next t → t.phase = .expand)

/-- 45_lz77.md R220: EXPAND returns at the end-of-block symbol, and a literal ahead is appended and EXPAND goes
on from behind it. That EXPAND runs its loop in one piece and leaves `phase` at its end is the model's own
(logs 5 and 21). -/
def Obligations.ExpandGoesOnToTheEndOfBlock : Prop :=
  ∀ (s : State) (l k : Nat), s.codeAhead s.llt l k →
    (k = 256 → exec .expand s = .next { s with cur := s.cur + l, sym := 256, phase := .returned }) ∧
    (k < 256 → s.llt.built llSize = true →
      exec .expand s = exec .expand { s.append (BitVec.ofNat 8 k) with cur := s.cur + l, sym := k })

/-- 46_decode_loop.md R262, R263, R265 with 42_stored.md R170: one iteration of the loop on a stored block. `k`
is the byte behind the header. 42_stored.md R172 says that the block disturbs no tree; that the three tree
registers, which hold none in a run there, are empty after it is 10_state.md R35 (log 19, DEDUCED). -/
def Obligations.BlkHdrRunsAStoredBlock : Prop :=
  ∀ (s : State) (f : Bool) (k len nlen : Nat), k = (s.cur + 3 + 7) / 8 →
    s.input.bit s.cur = f.toNat → s.input.bit (s.cur + 1) = 0 → s.input.bit (s.cur + 2) = 0 →
    len = (s.input.read k).toNat + 256 * (s.input.read (k + 1)).toNat →
    nlen = (s.input.read (k + 2)).toNat + 256 * (s.input.read (k + 3)).toNat →
    len ^^^ nlen = 0xFFFF → k + 4 + len ≤ s.inLen →
    ∃ t, exec .blkHdr s = .next t ∧
      t = { s with cur := 8 * (k + 4 + len), bfinal := f, btype := 0, len := BitVec.ofNat 16 len,
                   nlen := BitVec.ofNat 16 nlen, out := t.out, outLen := s.outLen + len,
                   fsm := if f then .done else .readingHeader, phase := .idle,
                   clt := .none, llt := .none, dt := .none } ∧
      (∀ i, i < len → t.out.read (s.outLen + i) = s.input.read (k + 4 + i)) ∧
      (∀ a, a < s.outLen ∨ s.outLen + len ≤ a → t.out.read a = s.out.read a)

/-- 45_lz77.md R220, 44_dynamic.md R196, 46_decode_loop.md R262 to R265: what EXPAND, CLSEQ and BLK.HDR leave
unchanged when they end without a fault. EXPAND writes the cursor, its scratch registers and `OUT`; CLSEQ
the cursor, its scratch registers and the entries `0..n-1` of its own table; BLK.HDR leaves `IN`, the
configuration and every byte of `OUT` already written, and no tree outlives the block. The last is 10_state.md
R35 (log 19, DEDUCED), and that the configuration is never written is 10_state.md R40 (log 1, DEDUCED); `phase`
and `seqTable` are the model's own (log 5). -/
def Obligations.LoopsKeepTheirFrames : Prop :=
  (∀ s t : State, exec .expand s = .next t → t.fsm = .fault ∨
    (t = { s with cur := t.cur, out := t.out, outLen := t.outLen, sym := t.sym, ebits := t.ebits,
                  extra := t.extra, length := t.length, dcode := t.dcode, distance := t.distance,
                  phase := .returned } ∧
      s.cur ≤ t.cur ∧ s.outLen ≤ t.outLen ∧ ∀ a, a < s.outLen → t.out.read a = s.out.read a)) ∧
  (∀ (q : SeqTable) (s t : State), exec (.clseq q) s = .next t → t.fsm = .fault ∨
    (t = { s with cur := t.cur, clsym := t.clsym, rep := t.rep, cli := s.seqLen q, seqTable := q,
                  llcl := t.llcl, dcl := t.dcl } ∧
      s.cur ≤ t.cur ∧ (q = .ll → t.dcl = s.dcl) ∧ (q = .d → t.llcl = s.llcl) ∧
      ∀ j, s.seqLen q ≤ j → t.llcl.getD j 0 = s.llcl.getD j 0 ∧ t.dcl.getD j 0 = s.dcl.getD j 0)) ∧
  (∀ s t : State, exec .blkHdr s = .next t → t.fsm = .fault ∨
    (t.input = s.input ∧ t.inLen = s.inLen ∧ t.cfg = s.cfg ∧ t.err = s.err ∧ t.port = s.port ∧
      t.opResult = s.opResult ∧ t.result = s.result ∧ t.phase = .idle ∧
      t.clt = .none ∧ t.llt = .none ∧ t.dt = .none ∧
      t.fsm = (if t.bfinal then .done else .readingHeader) ∧ t.btype ≤ 2 ∧
      s.cur + 3 ≤ t.cur ∧ s.outLen ≤ t.outLen ∧ ∀ a, a < s.outLen → t.out.read a = s.out.read a))

/-! ### In one piece and element by element -/

/-- 46_decode_loop.md R263, R265, R270 and 00_scope.md R9: BLK.HDR, one iteration of the loop in one piece,
comes to what the block's elements come to when stepped one by one (the pieces and the steps are the model's
own, logs 5 and 21). -/
def Obligations.BlockInOnePieceAgreesWithItsElements : Prop :=
  ∀ s : State, s.Inv → s.fsm = .readingHeader → AgreesWithSteps (exec .blkHdr s) s

/-- 45_lz77.md R220 and 00_scope.md R9: in a block whose expander runs, EXPAND in one piece agrees with its
elements stepped one by one (the pieces and the steps are the model's own, logs 5 and 21). -/
def Obligations.ExpandInOnePieceAgreesWithItsElements : Prop :=
  ∀ s : State, s.Inv → s.fsm = .dispatching → s.phase = .expand → AgreesWithSteps (runInstr .expand s) s

/-- 44_dynamic.md R196 and 00_scope.md R9: in a block that begins a code-length sequence, CLSEQ in one piece
agrees with its elements stepped one by one (the pieces and the steps are the model's own, logs 5 and 21). -/
def Obligations.ClseqInOnePieceAgreesWithItsElements : Prop :=
  ∀ s : State, s.Inv → s.fsm = .dispatching → s.phase = .codeLengths → s.cli = 0 →
    AgreesWithSteps (runInstr (.clseq s.seqTable) s) s

/-- 46_decode_loop.md R270, 10_state.md R42: DECODE in one piece and the stepped machine hand the host the same
result on every input, and in DONE they leave the same cursor. That LAUNCH only begins the run, and the steps
after it are its loop, is log 21 (DEDUCED). -/
def Obligations.SteppedRunDecodesLikeTheWholeRun : Prop :=
  ∀ (bytes : List Byte) (s : State), ∃ t u, wholeRun s bytes = .next t ∧
    Sys2Proof.core.run (8 * bytes.length + 1) (s.launch bytes) = .next u ∧
    t.over = true ∧ u.over = true ∧ u.hostResult = t.hostResult ∧ (t.fsm = .done → u.cur = t.cur)

/-! ### Invariants and rules of the whole machine -/

/-- The run is in order at reset. 10_state.md R41 gives the cursor, `OUT`, `FSM`, `ERR` and the trees; the
range clauses of `Inv` speak of tables and header registers that R41 leaves unspecified and hold by log 3
(DESIGN CHOICE), and the input is empty by log 2 (DESIGN CHOICE). -/
def Obligations.ResetIsInOrder : Prop := State.reset.Inv

/-- From every state in order, reachable or not, a step answers a next state that is in order: a run never
stops on a refusal (20_memory.md R70, decision D19: the unaligned RB.BYTES is unreachable) and never leaves
the ranges of 10_state.md. What `Inv` says of `phase` and the port is the model's own (logs 5 and 8), and that
no tree outlives its block is 10_state.md R35 (log 19, DEDUCED). -/
def Obligations.EveryStepKeepsTheRunInOrder : Prop :=
  ∀ s : State, s.Inv → ∃ t, step s = .next t ∧ t.Inv

/-- 46_decode_loop.md R261, R265, R268: the transitions of `FSM`; DONE is reached only by completing a block
whose header had `BFINAL = 1`. -/
def Obligations.FsmMovesAsTheTableSays : Prop :=
  ∀ s t : State, s.Inv → step s = .next t →
    (s.fsm, t.fsm) ∈ [(Fsm.readingHeader, Fsm.dispatching), (.readingHeader, .fault),
      (.dispatching, .dispatching), (.dispatching, .readingHeader), (.dispatching, .done),
      (.dispatching, .fault), (.done, .done), (.fault, .fault)] ∧
    (s.fsm = .dispatching → t.fsm = .readingHeader → s.bfinal = false) ∧
    (s.fsm = .dispatching → t.fsm = .done → s.bfinal = true) ∧
    (s.fsm = .dispatching → t.fsm ≠ .fault → t.bfinal = s.bfinal ∧ t.btype = s.btype)

/-- 10_state.md R22, R23, 20_memory.md R61, R73, R80: the machine never writes `IN`, the cursor never goes back,
and `OUT` only grows: a written byte is never modified. That the configuration is never written is 10_state.md
R40 (log 1, DEDUCED), and the port is the model's own (log 8). -/
def Obligations.RunOnlyAppendsAndAdvances : Prop :=
  ∀ s t : State, s.port = none → step s = .next t →
    t.input = s.input ∧ t.inLen = s.inLen ∧ t.cfg = s.cfg ∧ t.port = none ∧
    (t.fsm ≠ .fault → s.cur ≤ t.cur ∧ s.outLen ≤ t.outLen ∧
      ∀ a, a < s.outLen → t.out.read a = s.out.read a)

/-- 70_reset_and_hazards.md R322, 41_huffman.md R159: a step of a run either raises a fault or consumes at least
one bit of `IN`. -/
def Obligations.EveryElementConsumesInput : Prop :=
  ∀ s t : State, s.Inv → s.over = false → step s = .next t →
    t.fsm = .fault ∨ (s.cur < t.cur ∧ t.cur ≤ 8 * t.inLen)

/-- 70_reset_and_hazards.md R322, 46_decode_loop.md R268: every run ends, after at most one step per bit of the
input and one more, in DONE or FAULT, and in DONE the output has at most 258 bytes per bit of the input. The
steps are the model's own (log 5), and so is that LAUNCH only begins the run (log 21). -/
def Obligations.EveryRunEnds : Prop :=
  ∀ (bytes : List Byte) (s : State), ∃ t,
    Sys2Proof.core.run (8 * bytes.length + 1) (s.launch bytes) = .next t ∧
    (t.fsm = .done ∨ t.fsm = .fault) ∧ (t.fsm = .done → t.outLen ≤ 258 * (8 * bytes.length))

/-- 46_decode_loop.md R267, 30_encoding.md R104: a step that does not fault reads no bit at or beyond the cursor
it leaves: any input with the same bits before it, longer or shorter, gives the same step. -/
def Obligations.StepReadsNothingBeyondItsCursor : Prop :=
  ∀ (s t : State) (m : Memory) (n : Nat), s.port = none → step s = .next t → t.fsm ≠ .fault →
    t.cur ≤ 8 * s.inLen → t.cur ≤ 8 * n → (∀ c, c < t.cur → m.bit c = s.input.bit c) →
    step { s with input := m, inLen := n } = .next { t with input := m, inLen := n }

/-- 43_fixed.md R182, decision D1: nothing but the raw distance field of a fixed block depends on
FIXED_DIST_ORDER, and no step writes it (10_state.md R40; log 1, DEDUCED). Where the step faults, the spec's
part is `FSM` and `ERR` alone (60_exceptions.md R292, decision D8): that every other register of the two faulted
states is the same too is the model's own (log 6, DESIGN CHOICE). -/
def Obligations.OnlyTheFixedDistanceFieldSeesTheOrder : Prop :=
  ∀ (s t : State) (o : BitOrder), s.port = none →
    ¬ (s.fsm = .dispatching ∧ s.phase = .distance ∧ s.dtPresent = false) → step s = .next t →
    step { s with cfg := ⟨o⟩ } = .next { t with cfg := ⟨o⟩ }

/-- 43_fixed.md R182: under LSB and MSB the raw field is fetched as two codes that are each other's reversal,
equal exactly on the eight palindromes (marked [derived] there); that the order is a field of State is log 1
(DEDUCED). -/
def Obligations.FixedDistanceOrdersAgreeOnPalindromes : Prop :=
  ∀ s : State, s.port = none → s.fsm = .dispatching → s.phase = .distance → s.dtPresent = false →
    s.hasBits 5 → ∃ v w t u,
      fetch { s with cfg := ⟨.lsb⟩ } = .ok ⟨.d, v⟩ t ∧ fetch { s with cfg := ⟨.msb⟩ } = .ok ⟨.d, w⟩ u ∧
      v < 32 ∧ w < 32 ∧ (∀ i, i < 5 → v.testBit i = w.testBit (4 - i)) ∧
      (v = w ↔ v ∈ [0, 4, 10, 14, 17, 21, 27, 31])

/-! ### Decoding and encoding -/

/-- 30_encoding.md R110: a word or more of every format, written out from the spec, decodes to its instruction,
and operation 13 does not exist. -/
def Obligations.SampleWordsDecode : Prop :=
  decode ⟨.bh, 0b011⟩ = .ok (.blkFixed true) ∧ decode ⟨.bh, 0b100⟩ = .ok (.blkDynamic false) ∧
  decode ⟨.st, 0⟩ = .ok .stHdr ∧ decode ⟨.dh, 5⟩ = .ok .dhHdist ∧ decode ⟨.cll, 0⟩ = .ok .dhClcl ∧
  decode ⟨.cl, 16⟩ = .ok .clRep16 ∧ decode ⟨.ll, 0x61⟩ = .ok .llLit97 ∧
  decode ⟨.ll, 256⟩ = .ok .llEob ∧ decode ⟨.ll, 285⟩ = .ok .llLen285 ∧ decode ⟨.d, 29⟩ = .ok .d29 ∧
  decode ⟨.op, 9⟩ = .ok .copy ∧ decode ⟨.op, 13⟩ = .error .noSuchOperation

/-- 30_encoding.md R110: decoding and encoding agree in both directions: every well-formed instruction's word
decodes to it, with every operand, and every word that decodes is the word of its instruction (the operand
places of format OP are the model's own, log 8). -/
def Obligations.DecodeAndEncodeAgree : Prop :=
  (∀ i : Instr, i.wellFormed = true → decode (encode i) = .ok i) ∧
  (∀ (w : ElementWord) (i : Instr), decode w = .ok i → encode i = w ∧ i.wellFormed = true)
end

