-- ==== Sys2Proof/Laws/State.lean ====
section
/-! SUPPORT. Laws/State.lean: what each named update of the state does to each field, so that no proof
unfolds a record update. -/

namespace Sys2Proof.Machine

/-! ### Appending a byte (00_scope.md R9) -/

@[simp] theorem State.append_input (s : State) (b : Byte) : (s.append b).input = s.input := rfl
@[simp] theorem State.append_inLen (s : State) (b : Byte) : (s.append b).inLen = s.inLen := rfl
@[simp] theorem State.append_cur (s : State) (b : Byte) : (s.append b).cur = s.cur := rfl
@[simp] theorem State.append_out (s : State) (b : Byte) : (s.append b).out = s.out.write s.outLen b := rfl
@[simp] theorem State.append_outLen (s : State) (b : Byte) : (s.append b).outLen = s.outLen + 1 := rfl
@[simp] theorem State.append_fsm (s : State) (b : Byte) : (s.append b).fsm = s.fsm := rfl
@[simp] theorem State.append_err (s : State) (b : Byte) : (s.append b).err = s.err := rfl
@[simp] theorem State.append_bfinal (s : State) (b : Byte) : (s.append b).bfinal = s.bfinal := rfl
@[simp] theorem State.append_btype (s : State) (b : Byte) : (s.append b).btype = s.btype := rfl
@[simp] theorem State.append_len (s : State) (b : Byte) : (s.append b).len = s.len := rfl
@[simp] theorem State.append_nlen (s : State) (b : Byte) : (s.append b).nlen = s.nlen := rfl
@[simp] theorem State.append_hlit (s : State) (b : Byte) : (s.append b).hlit = s.hlit := rfl
@[simp] theorem State.append_hdist (s : State) (b : Byte) : (s.append b).hdist = s.hdist := rfl
@[simp] theorem State.append_hclen (s : State) (b : Byte) : (s.append b).hclen = s.hclen := rfl
@[simp] theorem State.append_clcl (s : State) (b : Byte) : (s.append b).clcl = s.clcl := rfl
@[simp] theorem State.append_llcl (s : State) (b : Byte) : (s.append b).llcl = s.llcl := rfl
@[simp] theorem State.append_dcl (s : State) (b : Byte) : (s.append b).dcl = s.dcl := rfl
@[simp] theorem State.append_clt (s : State) (b : Byte) : (s.append b).clt = s.clt := rfl
@[simp] theorem State.append_llt (s : State) (b : Byte) : (s.append b).llt = s.llt := rfl
@[simp] theorem State.append_dt (s : State) (b : Byte) : (s.append b).dt = s.dt := rfl
@[simp] theorem State.append_dtPresent (s : State) (b : Byte) : (s.append b).dtPresent = s.dtPresent := rfl
@[simp] theorem State.append_blCount (s : State) (b : Byte) : (s.append b).blCount = s.blCount := rfl
@[simp] theorem State.append_nextCode (s : State) (b : Byte) : (s.append b).nextCode = s.nextCode := rfl
@[simp] theorem State.append_code (s : State) (b : Byte) : (s.append b).code = s.code := rfl
@[simp] theorem State.append_sym (s : State) (b : Byte) : (s.append b).sym = s.sym := rfl
@[simp] theorem State.append_ebits (s : State) (b : Byte) : (s.append b).ebits = s.ebits := rfl
@[simp] theorem State.append_extra (s : State) (b : Byte) : (s.append b).extra = s.extra := rfl
@[simp] theorem State.append_length (s : State) (b : Byte) : (s.append b).length = s.length := rfl
@[simp] theorem State.append_dcode (s : State) (b : Byte) : (s.append b).dcode = s.dcode := rfl
@[simp] theorem State.append_distance (s : State) (b : Byte) : (s.append b).distance = s.distance := rfl
@[simp] theorem State.append_cli (s : State) (b : Byte) : (s.append b).cli = s.cli := rfl
@[simp] theorem State.append_clsym (s : State) (b : Byte) : (s.append b).clsym = s.clsym := rfl
@[simp] theorem State.append_rep (s : State) (b : Byte) : (s.append b).rep = s.rep := rfl
@[simp] theorem State.append_cfg (s : State) (b : Byte) : (s.append b).cfg = s.cfg := rfl
@[simp] theorem State.append_phase (s : State) (b : Byte) : (s.append b).phase = s.phase := rfl
@[simp] theorem State.append_seqTable (s : State) (b : Byte) : (s.append b).seqTable = s.seqTable := rfl
@[simp] theorem State.append_port (s : State) (b : Byte) : (s.append b).port = s.port := rfl
@[simp] theorem State.append_opResult (s : State) (b : Byte) : (s.append b).opResult = s.opResult := rfl
@[simp] theorem State.append_result (s : State) (b : Byte) : (s.append b).result = s.result := rfl

/-! ### Fault entry (60_exceptions.md R292) -/

@[simp] theorem State.takeFault_input (s : State) (c : Cause) : (s.takeFault c).input = s.input := rfl
@[simp] theorem State.takeFault_inLen (s : State) (c : Cause) : (s.takeFault c).inLen = s.inLen := rfl
@[simp] theorem State.takeFault_cur (s : State) (c : Cause) : (s.takeFault c).cur = s.cur := rfl
@[simp] theorem State.takeFault_out (s : State) (c : Cause) : (s.takeFault c).out = s.out := rfl
@[simp] theorem State.takeFault_outLen (s : State) (c : Cause) : (s.takeFault c).outLen = s.outLen := rfl
@[simp] theorem State.takeFault_fsm (s : State) (c : Cause) : (s.takeFault c).fsm = .fault := rfl
@[simp] theorem State.takeFault_err (s : State) (c : Cause) : (s.takeFault c).err = c := rfl
@[simp] theorem State.takeFault_bfinal (s : State) (c : Cause) : (s.takeFault c).bfinal = s.bfinal := rfl
@[simp] theorem State.takeFault_btype (s : State) (c : Cause) : (s.takeFault c).btype = s.btype := rfl
@[simp] theorem State.takeFault_len (s : State) (c : Cause) : (s.takeFault c).len = s.len := rfl
@[simp] theorem State.takeFault_nlen (s : State) (c : Cause) : (s.takeFault c).nlen = s.nlen := rfl
@[simp] theorem State.takeFault_hlit (s : State) (c : Cause) : (s.takeFault c).hlit = s.hlit := rfl
@[simp] theorem State.takeFault_hdist (s : State) (c : Cause) : (s.takeFault c).hdist = s.hdist := rfl
@[simp] theorem State.takeFault_hclen (s : State) (c : Cause) : (s.takeFault c).hclen = s.hclen := rfl
@[simp] theorem State.takeFault_clcl (s : State) (c : Cause) : (s.takeFault c).clcl = s.clcl := rfl
@[simp] theorem State.takeFault_llcl (s : State) (c : Cause) : (s.takeFault c).llcl = s.llcl := rfl
@[simp] theorem State.takeFault_dcl (s : State) (c : Cause) : (s.takeFault c).dcl = s.dcl := rfl
@[simp] theorem State.takeFault_clt (s : State) (c : Cause) : (s.takeFault c).clt = s.clt := rfl
@[simp] theorem State.takeFault_llt (s : State) (c : Cause) : (s.takeFault c).llt = s.llt := rfl
@[simp] theorem State.takeFault_dt (s : State) (c : Cause) : (s.takeFault c).dt = s.dt := rfl
@[simp] theorem State.takeFault_dtPresent (s : State) (c : Cause) : (s.takeFault c).dtPresent = s.dtPresent := rfl
@[simp] theorem State.takeFault_blCount (s : State) (c : Cause) : (s.takeFault c).blCount = s.blCount := rfl
@[simp] theorem State.takeFault_nextCode (s : State) (c : Cause) : (s.takeFault c).nextCode = s.nextCode := rfl
@[simp] theorem State.takeFault_code (s : State) (c : Cause) : (s.takeFault c).code = s.code := rfl
@[simp] theorem State.takeFault_sym (s : State) (c : Cause) : (s.takeFault c).sym = s.sym := rfl
@[simp] theorem State.takeFault_ebits (s : State) (c : Cause) : (s.takeFault c).ebits = s.ebits := rfl
@[simp] theorem State.takeFault_extra (s : State) (c : Cause) : (s.takeFault c).extra = s.extra := rfl
@[simp] theorem State.takeFault_length (s : State) (c : Cause) : (s.takeFault c).length = s.length := rfl
@[simp] theorem State.takeFault_dcode (s : State) (c : Cause) : (s.takeFault c).dcode = s.dcode := rfl
@[simp] theorem State.takeFault_distance (s : State) (c : Cause) : (s.takeFault c).distance = s.distance := rfl
@[simp] theorem State.takeFault_cli (s : State) (c : Cause) : (s.takeFault c).cli = s.cli := rfl
@[simp] theorem State.takeFault_clsym (s : State) (c : Cause) : (s.takeFault c).clsym = s.clsym := rfl
@[simp] theorem State.takeFault_rep (s : State) (c : Cause) : (s.takeFault c).rep = s.rep := rfl
@[simp] theorem State.takeFault_cfg (s : State) (c : Cause) : (s.takeFault c).cfg = s.cfg := rfl
@[simp] theorem State.takeFault_phase (s : State) (c : Cause) : (s.takeFault c).phase = .idle := rfl
@[simp] theorem State.takeFault_seqTable (s : State) (c : Cause) : (s.takeFault c).seqTable = s.seqTable := rfl
@[simp] theorem State.takeFault_port (s : State) (c : Cause) : (s.takeFault c).port = s.port := rfl
@[simp] theorem State.takeFault_opResult (s : State) (c : Cause) : (s.takeFault c).opResult = s.opResult := rfl
@[simp] theorem State.takeFault_result (s : State) (c : Cause) : (s.takeFault c).result = s.result := rfl

/-! ### Entering a block (46_decode_loop.md R262) -/

@[simp] theorem State.enterBlock_input (s : State) (f : Bool) (n : Nat) : (s.enterBlock f n).input = s.input := rfl
@[simp] theorem State.enterBlock_inLen (s : State) (f : Bool) (n : Nat) : (s.enterBlock f n).inLen = s.inLen := rfl
@[simp] theorem State.enterBlock_cur (s : State) (f : Bool) (n : Nat) : (s.enterBlock f n).cur = s.cur := rfl
@[simp] theorem State.enterBlock_out (s : State) (f : Bool) (n : Nat) : (s.enterBlock f n).out = s.out := rfl
@[simp] theorem State.enterBlock_outLen (s : State) (f : Bool) (n : Nat) : (s.enterBlock f n).outLen = s.outLen := rfl
@[simp] theorem State.enterBlock_fsm (s : State) (f : Bool) (n : Nat) : (s.enterBlock f n).fsm = .dispatching := rfl
@[simp] theorem State.enterBlock_err (s : State) (f : Bool) (n : Nat) : (s.enterBlock f n).err = s.err := rfl
@[simp] theorem State.enterBlock_bfinal (s : State) (f : Bool) (n : Nat) : (s.enterBlock f n).bfinal = f := rfl
@[simp] theorem State.enterBlock_btype (s : State) (f : Bool) (n : Nat) : (s.enterBlock f n).btype = n := rfl
@[simp] theorem State.enterBlock_len (s : State) (f : Bool) (n : Nat) : (s.enterBlock f n).len = s.len := rfl
@[simp] theorem State.enterBlock_nlen (s : State) (f : Bool) (n : Nat) : (s.enterBlock f n).nlen = s.nlen := rfl
@[simp] theorem State.enterBlock_hlit (s : State) (f : Bool) (n : Nat) : (s.enterBlock f n).hlit = s.hlit := rfl
@[simp] theorem State.enterBlock_hdist (s : State) (f : Bool) (n : Nat) : (s.enterBlock f n).hdist = s.hdist := rfl
@[simp] theorem State.enterBlock_hclen (s : State) (f : Bool) (n : Nat) : (s.enterBlock f n).hclen = s.hclen := rfl
@[simp] theorem State.enterBlock_clcl (s : State) (f : Bool) (n : Nat) : (s.enterBlock f n).clcl = s.clcl := rfl
@[simp] theorem State.enterBlock_llcl (s : State) (f : Bool) (n : Nat) : (s.enterBlock f n).llcl = s.llcl := rfl
@[simp] theorem State.enterBlock_dcl (s : State) (f : Bool) (n : Nat) : (s.enterBlock f n).dcl = s.dcl := rfl
@[simp] theorem State.enterBlock_clt (s : State) (f : Bool) (n : Nat) : (s.enterBlock f n).clt = s.clt := rfl
@[simp] theorem State.enterBlock_llt (s : State) (f : Bool) (n : Nat) : (s.enterBlock f n).llt = s.llt := rfl
@[simp] theorem State.enterBlock_dt (s : State) (f : Bool) (n : Nat) : (s.enterBlock f n).dt = s.dt := rfl
@[simp] theorem State.enterBlock_dtPresent (s : State) (f : Bool) (n : Nat) : (s.enterBlock f n).dtPresent = s.dtPresent := rfl
@[simp] theorem State.enterBlock_blCount (s : State) (f : Bool) (n : Nat) : (s.enterBlock f n).blCount = s.blCount := rfl
@[simp] theorem State.enterBlock_nextCode (s : State) (f : Bool) (n : Nat) : (s.enterBlock f n).nextCode = s.nextCode := rfl
@[simp] theorem State.enterBlock_code (s : State) (f : Bool) (n : Nat) : (s.enterBlock f n).code = s.code := rfl
@[simp] theorem State.enterBlock_sym (s : State) (f : Bool) (n : Nat) : (s.enterBlock f n).sym = s.sym := rfl
@[simp] theorem State.enterBlock_ebits (s : State) (f : Bool) (n : Nat) : (s.enterBlock f n).ebits = s.ebits := rfl
@[simp] theorem State.enterBlock_extra (s : State) (f : Bool) (n : Nat) : (s.enterBlock f n).extra = s.extra := rfl
@[simp] theorem State.enterBlock_length (s : State) (f : Bool) (n : Nat) : (s.enterBlock f n).length = s.length := rfl
@[simp] theorem State.enterBlock_dcode (s : State) (f : Bool) (n : Nat) : (s.enterBlock f n).dcode = s.dcode := rfl
@[simp] theorem State.enterBlock_distance (s : State) (f : Bool) (n : Nat) : (s.enterBlock f n).distance = s.distance := rfl
@[simp] theorem State.enterBlock_cli (s : State) (f : Bool) (n : Nat) : (s.enterBlock f n).cli = s.cli := rfl
@[simp] theorem State.enterBlock_clsym (s : State) (f : Bool) (n : Nat) : (s.enterBlock f n).clsym = s.clsym := rfl
@[simp] theorem State.enterBlock_rep (s : State) (f : Bool) (n : Nat) : (s.enterBlock f n).rep = s.rep := rfl
@[simp] theorem State.enterBlock_cfg (s : State) (f : Bool) (n : Nat) : (s.enterBlock f n).cfg = s.cfg := rfl
@[simp] theorem State.enterBlock_phase (s : State) (f : Bool) (n : Nat) : (s.enterBlock f n).phase = s.phase := rfl
@[simp] theorem State.enterBlock_seqTable (s : State) (f : Bool) (n : Nat) : (s.enterBlock f n).seqTable = s.seqTable := rfl
@[simp] theorem State.enterBlock_port (s : State) (f : Bool) (n : Nat) : (s.enterBlock f n).port = s.port := rfl
@[simp] theorem State.enterBlock_opResult (s : State) (f : Bool) (n : Nat) : (s.enterBlock f n).opResult = s.opResult := rfl
@[simp] theorem State.enterBlock_result (s : State) (f : Bool) (n : Nat) : (s.enterBlock f n).result = s.result := rfl

/-! ### Leaving a block (46_decode_loop.md R265) -/

@[simp] theorem State.leaveBlock_input (s : State) : (s.leaveBlock).input = s.input := rfl
@[simp] theorem State.leaveBlock_inLen (s : State) : (s.leaveBlock).inLen = s.inLen := rfl
@[simp] theorem State.leaveBlock_cur (s : State) : (s.leaveBlock).cur = s.cur := rfl
@[simp] theorem State.leaveBlock_out (s : State) : (s.leaveBlock).out = s.out := rfl
@[simp] theorem State.leaveBlock_outLen (s : State) : (s.leaveBlock).outLen = s.outLen := rfl
@[simp] theorem State.leaveBlock_fsm (s : State) : (s.leaveBlock).fsm = if s.bfinal then .done else .readingHeader := rfl
@[simp] theorem State.leaveBlock_err (s : State) : (s.leaveBlock).err = s.err := rfl
@[simp] theorem State.leaveBlock_bfinal (s : State) : (s.leaveBlock).bfinal = s.bfinal := rfl
@[simp] theorem State.leaveBlock_btype (s : State) : (s.leaveBlock).btype = s.btype := rfl
@[simp] theorem State.leaveBlock_len (s : State) : (s.leaveBlock).len = s.len := rfl
@[simp] theorem State.leaveBlock_nlen (s : State) : (s.leaveBlock).nlen = s.nlen := rfl
@[simp] theorem State.leaveBlock_hlit (s : State) : (s.leaveBlock).hlit = s.hlit := rfl
@[simp] theorem State.leaveBlock_hdist (s : State) : (s.leaveBlock).hdist = s.hdist := rfl
@[simp] theorem State.leaveBlock_hclen (s : State) : (s.leaveBlock).hclen = s.hclen := rfl
@[simp] theorem State.leaveBlock_clcl (s : State) : (s.leaveBlock).clcl = s.clcl := rfl
@[simp] theorem State.leaveBlock_llcl (s : State) : (s.leaveBlock).llcl = s.llcl := rfl
@[simp] theorem State.leaveBlock_dcl (s : State) : (s.leaveBlock).dcl = s.dcl := rfl
@[simp] theorem State.leaveBlock_clt (s : State) : (s.leaveBlock).clt = .none := rfl
@[simp] theorem State.leaveBlock_llt (s : State) : (s.leaveBlock).llt = .none := rfl
@[simp] theorem State.leaveBlock_dt (s : State) : (s.leaveBlock).dt = .none := rfl
@[simp] theorem State.leaveBlock_dtPresent (s : State) : (s.leaveBlock).dtPresent = s.dtPresent := rfl
@[simp] theorem State.leaveBlock_blCount (s : State) : (s.leaveBlock).blCount = s.blCount := rfl
@[simp] theorem State.leaveBlock_nextCode (s : State) : (s.leaveBlock).nextCode = s.nextCode := rfl
@[simp] theorem State.leaveBlock_code (s : State) : (s.leaveBlock).code = s.code := rfl
@[simp] theorem State.leaveBlock_sym (s : State) : (s.leaveBlock).sym = s.sym := rfl
@[simp] theorem State.leaveBlock_ebits (s : State) : (s.leaveBlock).ebits = s.ebits := rfl
@[simp] theorem State.leaveBlock_extra (s : State) : (s.leaveBlock).extra = s.extra := rfl
@[simp] theorem State.leaveBlock_length (s : State) : (s.leaveBlock).length = s.length := rfl
@[simp] theorem State.leaveBlock_dcode (s : State) : (s.leaveBlock).dcode = s.dcode := rfl
@[simp] theorem State.leaveBlock_distance (s : State) : (s.leaveBlock).distance = s.distance := rfl
@[simp] theorem State.leaveBlock_cli (s : State) : (s.leaveBlock).cli = s.cli := rfl
@[simp] theorem State.leaveBlock_clsym (s : State) : (s.leaveBlock).clsym = s.clsym := rfl
@[simp] theorem State.leaveBlock_rep (s : State) : (s.leaveBlock).rep = s.rep := rfl
@[simp] theorem State.leaveBlock_cfg (s : State) : (s.leaveBlock).cfg = s.cfg := rfl
@[simp] theorem State.leaveBlock_phase (s : State) : (s.leaveBlock).phase = .idle := rfl
@[simp] theorem State.leaveBlock_seqTable (s : State) : (s.leaveBlock).seqTable = s.seqTable := rfl
@[simp] theorem State.leaveBlock_port (s : State) : (s.leaveBlock).port = s.port := rfl
@[simp] theorem State.leaveBlock_opResult (s : State) : (s.leaveBlock).opResult = s.opResult := rfl
@[simp] theorem State.leaveBlock_result (s : State) : (s.leaveBlock).result = s.result := rfl

/-! ### Beginning a code-length sequence (44_dynamic.md R196) -/

@[simp] theorem State.beginSequence_input (s : State) (q : SeqTable) : (s.beginSequence q).input = s.input := rfl
@[simp] theorem State.beginSequence_inLen (s : State) (q : SeqTable) : (s.beginSequence q).inLen = s.inLen := rfl
@[simp] theorem State.beginSequence_cur (s : State) (q : SeqTable) : (s.beginSequence q).cur = s.cur := rfl
@[simp] theorem State.beginSequence_out (s : State) (q : SeqTable) : (s.beginSequence q).out = s.out := rfl
@[simp] theorem State.beginSequence_outLen (s : State) (q : SeqTable) : (s.beginSequence q).outLen = s.outLen := rfl
@[simp] theorem State.beginSequence_fsm (s : State) (q : SeqTable) : (s.beginSequence q).fsm = s.fsm := rfl
@[simp] theorem State.beginSequence_err (s : State) (q : SeqTable) : (s.beginSequence q).err = s.err := rfl
@[simp] theorem State.beginSequence_bfinal (s : State) (q : SeqTable) : (s.beginSequence q).bfinal = s.bfinal := rfl
@[simp] theorem State.beginSequence_btype (s : State) (q : SeqTable) : (s.beginSequence q).btype = s.btype := rfl
@[simp] theorem State.beginSequence_len (s : State) (q : SeqTable) : (s.beginSequence q).len = s.len := rfl
@[simp] theorem State.beginSequence_nlen (s : State) (q : SeqTable) : (s.beginSequence q).nlen = s.nlen := rfl
@[simp] theorem State.beginSequence_hlit (s : State) (q : SeqTable) : (s.beginSequence q).hlit = s.hlit := rfl
@[simp] theorem State.beginSequence_hdist (s : State) (q : SeqTable) : (s.beginSequence q).hdist = s.hdist := rfl
@[simp] theorem State.beginSequence_hclen (s : State) (q : SeqTable) : (s.beginSequence q).hclen = s.hclen := rfl
@[simp] theorem State.beginSequence_clcl (s : State) (q : SeqTable) : (s.beginSequence q).clcl = s.clcl := rfl
@[simp] theorem State.beginSequence_llcl (s : State) (q : SeqTable) : (s.beginSequence q).llcl = s.llcl := rfl
@[simp] theorem State.beginSequence_dcl (s : State) (q : SeqTable) : (s.beginSequence q).dcl = s.dcl := rfl
@[simp] theorem State.beginSequence_clt (s : State) (q : SeqTable) : (s.beginSequence q).clt = s.clt := rfl
@[simp] theorem State.beginSequence_llt (s : State) (q : SeqTable) : (s.beginSequence q).llt = s.llt := rfl
@[simp] theorem State.beginSequence_dt (s : State) (q : SeqTable) : (s.beginSequence q).dt = s.dt := rfl
@[simp] theorem State.beginSequence_dtPresent (s : State) (q : SeqTable) : (s.beginSequence q).dtPresent = s.dtPresent := rfl
@[simp] theorem State.beginSequence_blCount (s : State) (q : SeqTable) : (s.beginSequence q).blCount = s.blCount := rfl
@[simp] theorem State.beginSequence_nextCode (s : State) (q : SeqTable) : (s.beginSequence q).nextCode = s.nextCode := rfl
@[simp] theorem State.beginSequence_code (s : State) (q : SeqTable) : (s.beginSequence q).code = s.code := rfl
@[simp] theorem State.beginSequence_sym (s : State) (q : SeqTable) : (s.beginSequence q).sym = s.sym := rfl
@[simp] theorem State.beginSequence_ebits (s : State) (q : SeqTable) : (s.beginSequence q).ebits = s.ebits := rfl
@[simp] theorem State.beginSequence_extra (s : State) (q : SeqTable) : (s.beginSequence q).extra = s.extra := rfl
@[simp] theorem State.beginSequence_length (s : State) (q : SeqTable) : (s.beginSequence q).length = s.length := rfl
@[simp] theorem State.beginSequence_dcode (s : State) (q : SeqTable) : (s.beginSequence q).dcode = s.dcode := rfl
@[simp] theorem State.beginSequence_distance (s : State) (q : SeqTable) : (s.beginSequence q).distance = s.distance := rfl
@[simp] theorem State.beginSequence_cli (s : State) (q : SeqTable) : (s.beginSequence q).cli = 0 := rfl
@[simp] theorem State.beginSequence_clsym (s : State) (q : SeqTable) : (s.beginSequence q).clsym = s.clsym := rfl
@[simp] theorem State.beginSequence_rep (s : State) (q : SeqTable) : (s.beginSequence q).rep = s.rep := rfl
@[simp] theorem State.beginSequence_cfg (s : State) (q : SeqTable) : (s.beginSequence q).cfg = s.cfg := rfl
@[simp] theorem State.beginSequence_phase (s : State) (q : SeqTable) : (s.beginSequence q).phase = s.phase := rfl
@[simp] theorem State.beginSequence_seqTable (s : State) (q : SeqTable) : (s.beginSequence q).seqTable = q := rfl
@[simp] theorem State.beginSequence_port (s : State) (q : SeqTable) : (s.beginSequence q).port = s.port := rfl
@[simp] theorem State.beginSequence_opResult (s : State) (q : SeqTable) : (s.beginSequence q).opResult = s.opResult := rfl
@[simp] theorem State.beginSequence_result (s : State) (q : SeqTable) : (s.beginSequence q).result = s.result := rfl

/-! ### Clearing the unused literal/length lengths (44_dynamic.md R203) -/

@[simp] theorem State.clearUnusedLengths_input (s : State) : (s.clearUnusedLengths).input = s.input := rfl
@[simp] theorem State.clearUnusedLengths_inLen (s : State) : (s.clearUnusedLengths).inLen = s.inLen := rfl
@[simp] theorem State.clearUnusedLengths_cur (s : State) : (s.clearUnusedLengths).cur = s.cur := rfl
@[simp] theorem State.clearUnusedLengths_out (s : State) : (s.clearUnusedLengths).out = s.out := rfl
@[simp] theorem State.clearUnusedLengths_outLen (s : State) : (s.clearUnusedLengths).outLen = s.outLen := rfl
@[simp] theorem State.clearUnusedLengths_fsm (s : State) : (s.clearUnusedLengths).fsm = s.fsm := rfl
@[simp] theorem State.clearUnusedLengths_err (s : State) : (s.clearUnusedLengths).err = s.err := rfl
@[simp] theorem State.clearUnusedLengths_bfinal (s : State) : (s.clearUnusedLengths).bfinal = s.bfinal := rfl
@[simp] theorem State.clearUnusedLengths_btype (s : State) : (s.clearUnusedLengths).btype = s.btype := rfl
@[simp] theorem State.clearUnusedLengths_len (s : State) : (s.clearUnusedLengths).len = s.len := rfl
@[simp] theorem State.clearUnusedLengths_nlen (s : State) : (s.clearUnusedLengths).nlen = s.nlen := rfl
@[simp] theorem State.clearUnusedLengths_hlit (s : State) : (s.clearUnusedLengths).hlit = s.hlit := rfl
@[simp] theorem State.clearUnusedLengths_hdist (s : State) : (s.clearUnusedLengths).hdist = s.hdist := rfl
@[simp] theorem State.clearUnusedLengths_hclen (s : State) : (s.clearUnusedLengths).hclen = s.hclen := rfl
@[simp] theorem State.clearUnusedLengths_clcl (s : State) : (s.clearUnusedLengths).clcl = s.clcl := rfl
@[simp] theorem State.clearUnusedLengths_llcl (s : State) : (s.clearUnusedLengths).llcl = s.llcl.take s.hlit ++ List.replicate (llSize - s.hlit) 0 := rfl
@[simp] theorem State.clearUnusedLengths_dcl (s : State) : (s.clearUnusedLengths).dcl = s.dcl := rfl
@[simp] theorem State.clearUnusedLengths_clt (s : State) : (s.clearUnusedLengths).clt = s.clt := rfl
@[simp] theorem State.clearUnusedLengths_llt (s : State) : (s.clearUnusedLengths).llt = s.llt := rfl
@[simp] theorem State.clearUnusedLengths_dt (s : State) : (s.clearUnusedLengths).dt = s.dt := rfl
@[simp] theorem State.clearUnusedLengths_dtPresent (s : State) : (s.clearUnusedLengths).dtPresent = s.dtPresent := rfl
@[simp] theorem State.clearUnusedLengths_blCount (s : State) : (s.clearUnusedLengths).blCount = s.blCount := rfl
@[simp] theorem State.clearUnusedLengths_nextCode (s : State) : (s.clearUnusedLengths).nextCode = s.nextCode := rfl
@[simp] theorem State.clearUnusedLengths_code (s : State) : (s.clearUnusedLengths).code = s.code := rfl
@[simp] theorem State.clearUnusedLengths_sym (s : State) : (s.clearUnusedLengths).sym = s.sym := rfl
@[simp] theorem State.clearUnusedLengths_ebits (s : State) : (s.clearUnusedLengths).ebits = s.ebits := rfl
@[simp] theorem State.clearUnusedLengths_extra (s : State) : (s.clearUnusedLengths).extra = s.extra := rfl
@[simp] theorem State.clearUnusedLengths_length (s : State) : (s.clearUnusedLengths).length = s.length := rfl
@[simp] theorem State.clearUnusedLengths_dcode (s : State) : (s.clearUnusedLengths).dcode = s.dcode := rfl
@[simp] theorem State.clearUnusedLengths_distance (s : State) : (s.clearUnusedLengths).distance = s.distance := rfl
@[simp] theorem State.clearUnusedLengths_cli (s : State) : (s.clearUnusedLengths).cli = s.cli := rfl
@[simp] theorem State.clearUnusedLengths_clsym (s : State) : (s.clearUnusedLengths).clsym = s.clsym := rfl
@[simp] theorem State.clearUnusedLengths_rep (s : State) : (s.clearUnusedLengths).rep = s.rep := rfl
@[simp] theorem State.clearUnusedLengths_cfg (s : State) : (s.clearUnusedLengths).cfg = s.cfg := rfl
@[simp] theorem State.clearUnusedLengths_phase (s : State) : (s.clearUnusedLengths).phase = s.phase := rfl
@[simp] theorem State.clearUnusedLengths_seqTable (s : State) : (s.clearUnusedLengths).seqTable = s.seqTable := rfl
@[simp] theorem State.clearUnusedLengths_port (s : State) : (s.clearUnusedLengths).port = s.port := rfl
@[simp] theorem State.clearUnusedLengths_opResult (s : State) : (s.clearUnusedLengths).opResult = s.opResult := rfl
@[simp] theorem State.clearUnusedLengths_result (s : State) : (s.clearUnusedLengths).result = s.result := rfl

/-! ### Putting a tree into its register (10_state.md R34) -/

@[simp] theorem State.setTree_input (s : State) (q : TreeSel) (tree : Tree) : (s.setTree q tree).input = s.input := by cases q <;> rfl
@[simp] theorem State.setTree_inLen (s : State) (q : TreeSel) (tree : Tree) : (s.setTree q tree).inLen = s.inLen := by cases q <;> rfl
@[simp] theorem State.setTree_cur (s : State) (q : TreeSel) (tree : Tree) : (s.setTree q tree).cur = s.cur := by cases q <;> rfl
@[simp] theorem State.setTree_out (s : State) (q : TreeSel) (tree : Tree) : (s.setTree q tree).out = s.out := by cases q <;> rfl
@[simp] theorem State.setTree_outLen (s : State) (q : TreeSel) (tree : Tree) : (s.setTree q tree).outLen = s.outLen := by cases q <;> rfl
@[simp] theorem State.setTree_fsm (s : State) (q : TreeSel) (tree : Tree) : (s.setTree q tree).fsm = s.fsm := by cases q <;> rfl
@[simp] theorem State.setTree_err (s : State) (q : TreeSel) (tree : Tree) : (s.setTree q tree).err = s.err := by cases q <;> rfl
@[simp] theorem State.setTree_bfinal (s : State) (q : TreeSel) (tree : Tree) : (s.setTree q tree).bfinal = s.bfinal := by cases q <;> rfl
@[simp] theorem State.setTree_btype (s : State) (q : TreeSel) (tree : Tree) : (s.setTree q tree).btype = s.btype := by cases q <;> rfl
@[simp] theorem State.setTree_len (s : State) (q : TreeSel) (tree : Tree) : (s.setTree q tree).len = s.len := by cases q <;> rfl
@[simp] theorem State.setTree_nlen (s : State) (q : TreeSel) (tree : Tree) : (s.setTree q tree).nlen = s.nlen := by cases q <;> rfl
@[simp] theorem State.setTree_hlit (s : State) (q : TreeSel) (tree : Tree) : (s.setTree q tree).hlit = s.hlit := by cases q <;> rfl
@[simp] theorem State.setTree_hdist (s : State) (q : TreeSel) (tree : Tree) : (s.setTree q tree).hdist = s.hdist := by cases q <;> rfl
@[simp] theorem State.setTree_hclen (s : State) (q : TreeSel) (tree : Tree) : (s.setTree q tree).hclen = s.hclen := by cases q <;> rfl
@[simp] theorem State.setTree_clcl (s : State) (q : TreeSel) (tree : Tree) : (s.setTree q tree).clcl = s.clcl := by cases q <;> rfl
@[simp] theorem State.setTree_llcl (s : State) (q : TreeSel) (tree : Tree) : (s.setTree q tree).llcl = s.llcl := by cases q <;> rfl
@[simp] theorem State.setTree_dcl (s : State) (q : TreeSel) (tree : Tree) : (s.setTree q tree).dcl = s.dcl := by cases q <;> rfl
@[simp] theorem State.setTree_clt (s : State) (q : TreeSel) (tree : Tree) : (s.setTree q tree).clt = if q = .clt then tree else s.clt := by cases q <;> rfl
@[simp] theorem State.setTree_llt (s : State) (q : TreeSel) (tree : Tree) : (s.setTree q tree).llt = if q = .llt then tree else s.llt := by cases q <;> rfl
@[simp] theorem State.setTree_dt (s : State) (q : TreeSel) (tree : Tree) : (s.setTree q tree).dt = if q = .dt then tree else s.dt := by cases q <;> rfl
@[simp] theorem State.setTree_dtPresent (s : State) (q : TreeSel) (tree : Tree) : (s.setTree q tree).dtPresent = s.dtPresent := by cases q <;> rfl
@[simp] theorem State.setTree_blCount (s : State) (q : TreeSel) (tree : Tree) : (s.setTree q tree).blCount = s.blCount := by cases q <;> rfl
@[simp] theorem State.setTree_nextCode (s : State) (q : TreeSel) (tree : Tree) : (s.setTree q tree).nextCode = s.nextCode := by cases q <;> rfl
@[simp] theorem State.setTree_code (s : State) (q : TreeSel) (tree : Tree) : (s.setTree q tree).code = s.code := by cases q <;> rfl
@[simp] theorem State.setTree_sym (s : State) (q : TreeSel) (tree : Tree) : (s.setTree q tree).sym = s.sym := by cases q <;> rfl
@[simp] theorem State.setTree_ebits (s : State) (q : TreeSel) (tree : Tree) : (s.setTree q tree).ebits = s.ebits := by cases q <;> rfl
@[simp] theorem State.setTree_extra (s : State) (q : TreeSel) (tree : Tree) : (s.setTree q tree).extra = s.extra := by cases q <;> rfl
@[simp] theorem State.setTree_length (s : State) (q : TreeSel) (tree : Tree) : (s.setTree q tree).length = s.length := by cases q <;> rfl
@[simp] theorem State.setTree_dcode (s : State) (q : TreeSel) (tree : Tree) : (s.setTree q tree).dcode = s.dcode := by cases q <;> rfl
@[simp] theorem State.setTree_distance (s : State) (q : TreeSel) (tree : Tree) : (s.setTree q tree).distance = s.distance := by cases q <;> rfl
@[simp] theorem State.setTree_cli (s : State) (q : TreeSel) (tree : Tree) : (s.setTree q tree).cli = s.cli := by cases q <;> rfl
@[simp] theorem State.setTree_clsym (s : State) (q : TreeSel) (tree : Tree) : (s.setTree q tree).clsym = s.clsym := by cases q <;> rfl
@[simp] theorem State.setTree_rep (s : State) (q : TreeSel) (tree : Tree) : (s.setTree q tree).rep = s.rep := by cases q <;> rfl
@[simp] theorem State.setTree_cfg (s : State) (q : TreeSel) (tree : Tree) : (s.setTree q tree).cfg = s.cfg := by cases q <;> rfl
@[simp] theorem State.setTree_phase (s : State) (q : TreeSel) (tree : Tree) : (s.setTree q tree).phase = s.phase := by cases q <;> rfl
@[simp] theorem State.setTree_seqTable (s : State) (q : TreeSel) (tree : Tree) : (s.setTree q tree).seqTable = s.seqTable := by cases q <;> rfl
@[simp] theorem State.setTree_port (s : State) (q : TreeSel) (tree : Tree) : (s.setTree q tree).port = s.port := by cases q <;> rfl
@[simp] theorem State.setTree_opResult (s : State) (q : TreeSel) (tree : Tree) : (s.setTree q tree).opResult = s.opResult := by cases q <;> rfl
@[simp] theorem State.setTree_result (s : State) (q : TreeSel) (tree : Tree) : (s.setTree q tree).result = s.result := by cases q <;> rfl

/-! ### Emitting a length (44_dynamic.md R196) -/

@[simp] theorem State.emitLength_input (s : State) (v : Nat) : (s.emitLength v).input = s.input := by unfold State.emitLength; cases s.seqTable <;> rfl
@[simp] theorem State.emitLength_inLen (s : State) (v : Nat) : (s.emitLength v).inLen = s.inLen := by unfold State.emitLength; cases s.seqTable <;> rfl
@[simp] theorem State.emitLength_cur (s : State) (v : Nat) : (s.emitLength v).cur = s.cur := by unfold State.emitLength; cases s.seqTable <;> rfl
@[simp] theorem State.emitLength_out (s : State) (v : Nat) : (s.emitLength v).out = s.out := by unfold State.emitLength; cases s.seqTable <;> rfl
@[simp] theorem State.emitLength_outLen (s : State) (v : Nat) : (s.emitLength v).outLen = s.outLen := by unfold State.emitLength; cases s.seqTable <;> rfl
@[simp] theorem State.emitLength_fsm (s : State) (v : Nat) : (s.emitLength v).fsm = s.fsm := by unfold State.emitLength; cases s.seqTable <;> rfl
@[simp] theorem State.emitLength_err (s : State) (v : Nat) : (s.emitLength v).err = s.err := by unfold State.emitLength; cases s.seqTable <;> rfl
@[simp] theorem State.emitLength_bfinal (s : State) (v : Nat) : (s.emitLength v).bfinal = s.bfinal := by unfold State.emitLength; cases s.seqTable <;> rfl
@[simp] theorem State.emitLength_btype (s : State) (v : Nat) : (s.emitLength v).btype = s.btype := by unfold State.emitLength; cases s.seqTable <;> rfl
@[simp] theorem State.emitLength_len (s : State) (v : Nat) : (s.emitLength v).len = s.len := by unfold State.emitLength; cases s.seqTable <;> rfl
@[simp] theorem State.emitLength_nlen (s : State) (v : Nat) : (s.emitLength v).nlen = s.nlen := by unfold State.emitLength; cases s.seqTable <;> rfl
@[simp] theorem State.emitLength_hlit (s : State) (v : Nat) : (s.emitLength v).hlit = s.hlit := by unfold State.emitLength; cases s.seqTable <;> rfl
@[simp] theorem State.emitLength_hdist (s : State) (v : Nat) : (s.emitLength v).hdist = s.hdist := by unfold State.emitLength; cases s.seqTable <;> rfl
@[simp] theorem State.emitLength_hclen (s : State) (v : Nat) : (s.emitLength v).hclen = s.hclen := by unfold State.emitLength; cases s.seqTable <;> rfl
@[simp] theorem State.emitLength_clcl (s : State) (v : Nat) : (s.emitLength v).clcl = s.clcl := by unfold State.emitLength; cases s.seqTable <;> rfl
@[simp] theorem State.emitLength_llcl (s : State) (v : Nat) : (s.emitLength v).llcl = if s.seqTable = .ll then s.llcl.set s.cli v else s.llcl := by unfold State.emitLength; cases s.seqTable <;> rfl
@[simp] theorem State.emitLength_dcl (s : State) (v : Nat) : (s.emitLength v).dcl = if s.seqTable = .d then s.dcl.set s.cli v else s.dcl := by unfold State.emitLength; cases s.seqTable <;> rfl
@[simp] theorem State.emitLength_clt (s : State) (v : Nat) : (s.emitLength v).clt = s.clt := by unfold State.emitLength; cases s.seqTable <;> rfl
@[simp] theorem State.emitLength_llt (s : State) (v : Nat) : (s.emitLength v).llt = s.llt := by unfold State.emitLength; cases s.seqTable <;> rfl
@[simp] theorem State.emitLength_dt (s : State) (v : Nat) : (s.emitLength v).dt = s.dt := by unfold State.emitLength; cases s.seqTable <;> rfl
@[simp] theorem State.emitLength_dtPresent (s : State) (v : Nat) : (s.emitLength v).dtPresent = s.dtPresent := by unfold State.emitLength; cases s.seqTable <;> rfl
@[simp] theorem State.emitLength_blCount (s : State) (v : Nat) : (s.emitLength v).blCount = s.blCount := by unfold State.emitLength; cases s.seqTable <;> rfl
@[simp] theorem State.emitLength_nextCode (s : State) (v : Nat) : (s.emitLength v).nextCode = s.nextCode := by unfold State.emitLength; cases s.seqTable <;> rfl
@[simp] theorem State.emitLength_code (s : State) (v : Nat) : (s.emitLength v).code = s.code := by unfold State.emitLength; cases s.seqTable <;> rfl
@[simp] theorem State.emitLength_sym (s : State) (v : Nat) : (s.emitLength v).sym = s.sym := by unfold State.emitLength; cases s.seqTable <;> rfl
@[simp] theorem State.emitLength_ebits (s : State) (v : Nat) : (s.emitLength v).ebits = s.ebits := by unfold State.emitLength; cases s.seqTable <;> rfl
@[simp] theorem State.emitLength_extra (s : State) (v : Nat) : (s.emitLength v).extra = s.extra := by unfold State.emitLength; cases s.seqTable <;> rfl
@[simp] theorem State.emitLength_length (s : State) (v : Nat) : (s.emitLength v).length = s.length := by unfold State.emitLength; cases s.seqTable <;> rfl
@[simp] theorem State.emitLength_dcode (s : State) (v : Nat) : (s.emitLength v).dcode = s.dcode := by unfold State.emitLength; cases s.seqTable <;> rfl
@[simp] theorem State.emitLength_distance (s : State) (v : Nat) : (s.emitLength v).distance = s.distance := by unfold State.emitLength; cases s.seqTable <;> rfl
@[simp] theorem State.emitLength_cli (s : State) (v : Nat) : (s.emitLength v).cli = s.cli + 1 := by unfold State.emitLength; cases s.seqTable <;> rfl
@[simp] theorem State.emitLength_clsym (s : State) (v : Nat) : (s.emitLength v).clsym = s.clsym := by unfold State.emitLength; cases s.seqTable <;> rfl
@[simp] theorem State.emitLength_rep (s : State) (v : Nat) : (s.emitLength v).rep = s.rep := by unfold State.emitLength; cases s.seqTable <;> rfl
@[simp] theorem State.emitLength_cfg (s : State) (v : Nat) : (s.emitLength v).cfg = s.cfg := by unfold State.emitLength; cases s.seqTable <;> rfl
@[simp] theorem State.emitLength_phase (s : State) (v : Nat) : (s.emitLength v).phase = s.phase := by unfold State.emitLength; cases s.seqTable <;> rfl
@[simp] theorem State.emitLength_seqTable (s : State) (v : Nat) : (s.emitLength v).seqTable = s.seqTable := by unfold State.emitLength; cases s.seqTable <;> rfl
@[simp] theorem State.emitLength_port (s : State) (v : Nat) : (s.emitLength v).port = s.port := by unfold State.emitLength; cases s.seqTable <;> rfl
@[simp] theorem State.emitLength_opResult (s : State) (v : Nat) : (s.emitLength v).opResult = s.opResult := by unfold State.emitLength; cases s.seqTable <;> rfl
@[simp] theorem State.emitLength_result (s : State) (v : Nat) : (s.emitLength v).result = s.result := by unfold State.emitLength; cases s.seqTable <;> rfl

end Sys2Proof.Machine
end

