-- ==== Sys2Proof/Laws/Memory.lean ====
section
/-! SUPPORT. Laws/Memory.lean: the laws of a byte space: read after write, and the canonical form, which
every operation keeps. -/

namespace Sys2Proof.Machine

theorem Memory.read_remove (m : Memory) (a i : Nat) :
    (m.remove a).read i = if i = a then Memory.unlisted else m.read i := by
  induction m with
  | nil => simp [Memory.remove, Memory.read]
  | cons c m ih =>
    obtain ⟨k, v⟩ := c
    simp only [Memory.remove, List.filter_cons] at ih ⊢
    by_cases hk : k = a
    · subst hk
      simp only [ne_eq, not_true_eq_false, decide_false, Bool.false_eq_true, if_false, ih, Memory.read]
      split <;> simp_all
    · simp only [ne_eq, hk, not_false_eq_true, decide_true, if_true, Memory.read, ih]
      split <;> split <;> simp_all

theorem Memory.read_insertCell (m : Memory) (a i : Nat) (b : Byte)
    (fresh : ∀ c ∈ m, c.1 ≠ a) :
    (m.insertCell a b).read i = if i = a then b else m.read i := by
  induction m with
  | nil => simp [Memory.insertCell, Memory.read]
  | cons c m ih =>
    obtain ⟨k, v⟩ := c
    have hk : k ≠ a := fresh (k, v) (by simp)
    have := ih fun c hc => fresh c (by simp [hc])
    simp only [Memory.insertCell]
    split
    · simp only [Memory.read]
    · simp only [Memory.read, this]
      split <;> split <;> simp_all

theorem Memory.remove_fresh (m : Memory) (a : Nat) : ∀ c ∈ m.remove a, c.1 ≠ a := by
  intro c hc
  simpa [Memory.remove] using (List.mem_filter.mp hc).2

/-- Read after write: the written byte at its address, every other byte as before. -/
theorem Memory.read_write (m : Memory) (a i : Nat) (b : Byte) :
    (m.write a b).read i = if i = a then b else m.read i := by
  unfold Memory.write
  split
  · next hb => rw [Memory.read_remove, hb]
  · rw [Memory.read_insertCell _ _ _ _ (m.remove_fresh a), Memory.read_remove]
    split <;> simp_all

@[simp] theorem Memory.read_write_same (m : Memory) (a : Nat) (b : Byte) : (m.write a b).read a = b := by
  simp [Memory.read_write]

theorem Memory.read_write_other (m : Memory) {a i : Nat} (b : Byte) (h : i ≠ a) :
    (m.write a b).read i = m.read i := by
  simp [Memory.read_write, h]

/-- The canonical form in one line: no listed byte is the unlisted one, and the addresses rise. -/
theorem Memory.wf_iff (m : Memory) :
    m.wf = true ↔ (∀ c ∈ m, c.2 ≠ Memory.unlisted) ∧ m.Pairwise fun c d => c.1 < d.1 := by
  induction m with
  | nil => simp [Memory.wf]
  | cons c m ih =>
    cases m with
    | nil => simp [Memory.wf]
    | cons d m =>
      simp only [Memory.wf, Bool.and_eq_true, decide_eq_true_eq, ih, List.pairwise_cons]
      constructor
      · rintro ⟨⟨h1, h2⟩, h3, h4, h5⟩
        refine ⟨?_, ?_, h4, h5⟩
        · intro e he
          rcases List.mem_cons.mp he with rfl | he
          · exact h1
          · exact h3 e he
        · intro e he
          rcases List.mem_cons.mp he with rfl | he
          · exact h2
          · exact lt_trans h2 (h4 e he)
      · rintro ⟨h1, h2, h4, h5⟩
        exact ⟨⟨h1 c (by simp), h2 d (by simp)⟩, fun e he => h1 e (by simp [he]), h4, h5⟩

theorem Memory.remove_wf (m : Memory) (a : Nat) (h : m.wf = true) : (m.remove a).wf = true := by
  rw [Memory.wf_iff] at h ⊢
  exact ⟨fun c hc => h.1 c (List.mem_filter.mp hc).1, h.2.filter _⟩

theorem Memory.mem_insertCell (m : Memory) (a : Nat) (b : Byte) (c : Host.Cell) :
    c ∈ m.insertCell a b ↔ c = (a, b) ∨ c ∈ m := by
  induction m with
  | nil => simp [Memory.insertCell]
  | cons d m ih =>
    obtain ⟨k, v⟩ := d
    simp only [Memory.insertCell]
    split
    · simp
    · simp only [List.mem_cons, ih]
      tauto

theorem Memory.insertCell_wf (m : Memory) (a : Nat) (b : Byte) (h : m.wf = true)
    (fresh : ∀ c ∈ m, c.1 ≠ a) (hb : b ≠ Memory.unlisted) : (m.insertCell a b).wf = true := by
  rw [Memory.wf_iff] at h ⊢
  obtain ⟨hne, h⟩ := h
  refine ⟨fun c hc => ?_, ?_⟩
  · rcases (Memory.mem_insertCell m a b c).mp hc with rfl | hc
    · exact hb
    · exact hne c hc
  · clear hne
    induction m with
    | nil => simp [Memory.insertCell]
    | cons d m ih =>
      obtain ⟨k, v⟩ := d
      have hk : k ≠ a := fresh (k, v) (by simp)
      rw [List.pairwise_cons] at h
      simp only [Memory.insertCell]
      split
      · next hlt =>
        refine List.pairwise_cons.mpr ⟨fun c hc => ?_, List.pairwise_cons.mpr h⟩
        rcases List.mem_cons.mp hc with rfl | hc
        · exact hlt
        · exact lt_trans hlt (h.1 c hc)
      · next hlt =>
        refine List.pairwise_cons.mpr ⟨fun c hc => ?_, ih (fun c hc => fresh c (by simp [hc])) h.2⟩
        rcases (Memory.mem_insertCell m a b c).mp hc with rfl | hc
        · exact lt_of_le_of_ne (not_lt.mp hlt) hk
        · exact h.1 c hc

/-- A write keeps the canonical form. -/
theorem Memory.write_wf (m : Memory) (a : Nat) (b : Byte) (h : m.wf = true) : (m.write a b).wf = true := by
  unfold Memory.write
  split
  · exact m.remove_wf a h
  · next hb => exact Memory.insertCell_wf _ a b (m.remove_wf a h) (m.remove_fresh a) hb

theorem Memory.within_iff (m : Memory) (n : Nat) : m.within n = true ↔ ∀ c ∈ m, c.1 < n := by
  simp [Memory.within]

/-- A write inside a space lists nothing outside it. -/
theorem Memory.write_within (m : Memory) {a n k : Nat} (b : Byte) (h : m.within n = true) (hn : n ≤ k)
    (ha : a < k) : (m.write a b).within k = true := by
  rw [Memory.within_iff] at h ⊢
  intro c hc
  unfold Memory.write at hc
  split at hc
  · exact lt_of_lt_of_le (h c (List.mem_filter.mp hc).1) hn
  · rcases (Memory.mem_insertCell _ a b c).mp hc with rfl | hc
    · exact ha
    · exact lt_of_lt_of_le (h c (List.mem_filter.mp hc).1) hn

theorem Memory.mem_ofBytesFrom (bytes : List Byte) (a : Nat) (c : Host.Cell)
    (hc : c ∈ Memory.ofBytesFrom a bytes) :
    a ≤ c.1 ∧ c.1 < a + bytes.length ∧ c.2 ≠ Memory.unlisted := by
  induction bytes generalizing a with
  | nil => simp [Memory.ofBytesFrom] at hc
  | cons b bs ih =>
    simp only [Memory.ofBytesFrom] at hc
    split at hc
    · obtain ⟨h1, h2, h3⟩ := ih (a + 1) hc
      exact ⟨by omega, by simp; omega, h3⟩
    · next hb =>
      rcases List.mem_cons.mp hc with rfl | hc
      · exact ⟨le_refl _, by simp, hb⟩
      · obtain ⟨h1, h2, h3⟩ := ih (a + 1) hc
        exact ⟨by omega, by simp; omega, h3⟩

theorem Memory.pairwise_ofBytesFrom (bytes : List Byte) (a : Nat) :
    (Memory.ofBytesFrom a bytes).Pairwise fun c d => c.1 < d.1 := by
  induction bytes generalizing a with
  | nil => simp [Memory.ofBytesFrom]
  | cons b bs ih =>
    simp only [Memory.ofBytesFrom]
    split
    · exact ih (a + 1)
    · refine List.pairwise_cons.mpr ⟨fun c hc => ?_, ih (a + 1)⟩
      have := (Memory.mem_ofBytesFrom bs (a + 1) c hc).1
      simp only
      omega

/-- A loaded byte sequence is in canonical form. -/
theorem Memory.ofBytes_wf (bytes : List Byte) : (Memory.ofBytes bytes).wf = true :=
  (Memory.wf_iff _).mpr
    ⟨fun c hc => (Memory.mem_ofBytesFrom bytes 0 c hc).2.2, Memory.pairwise_ofBytesFrom bytes 0⟩

/-- A loaded byte sequence lists nothing outside its length. -/
theorem Memory.ofBytes_within (bytes : List Byte) : (Memory.ofBytes bytes).within bytes.length = true :=
  (Memory.within_iff _ _).mpr fun c hc => by
    have := (Memory.mem_ofBytesFrom bytes 0 c hc).2.1
    omega

/-- A byte that no pair lists reads as the unlisted one. -/
theorem Memory.read_unlisted (m : Memory) (i : Nat) (h : ∀ c ∈ m, c.1 ≠ i) :
    m.read i = Memory.unlisted := by
  induction m with
  | nil => rfl
  | cons c m ih =>
    obtain ⟨k, v⟩ := c
    have hk : i ≠ k := fun e => h (k, v) (by simp) e.symm
    simp only [Memory.read, hk, if_false]
    exact ih fun c hc => h c (by simp [hc])

theorem Memory.read_ofBytesFrom (bytes : List Byte) (a i : Nat) :
    (Memory.ofBytesFrom a bytes).read (a + i) = bytes.getD i 0 := by
  induction bytes generalizing a i with
  | nil => simp [Memory.ofBytesFrom, Memory.read, Memory.unlisted]
  | cons b bs ih =>
    cases i with
    | zero =>
      simp only [Memory.ofBytesFrom, Nat.add_zero, List.getD_cons_zero]
      split
      · next hb =>
        rw [hb]
        refine Memory.read_unlisted _ _ fun c hc => ?_
        have := (Memory.mem_ofBytesFrom bs (a + 1) c hc).1
        omega
      · simp [Memory.read]
    | succ i =>
      have := ih (a + 1) i
      simp only [Memory.ofBytesFrom, List.getD_cons_succ]
      rw [show a + (i + 1) = a + 1 + i by omega]
      split
      · exact this
      · rw [Memory.read, if_neg (by omega), this]

/-- What is loaded reads back. -/
theorem Memory.read_ofBytes (bytes : List Byte) (i : Nat) :
    (Memory.ofBytes bytes).read i = bytes.getD i 0 := by
  have := Memory.read_ofBytesFrom bytes 0 i
  simpa [Memory.ofBytes] using this

theorem Memory.bytes_length (m : Memory) (a n : Nat) : (m.bytes a n).length = n := by
  simp [Memory.bytes]

/-- The loaded sequence is what MemRead gives of the whole space. -/
theorem Memory.bytes_ofBytes (bytes : List Byte) :
    (Memory.ofBytes bytes).bytes 0 bytes.length = bytes := by
  apply List.ext_getElem
  · simp [Memory.bytes_length]
  · intro i h1 h2
    simp [Memory.bytes, Memory.read_ofBytes, h2]

end Sys2Proof.Machine
end

