-- ==== Sys2Proof/Laws/Monad.lean ====
section
/-! SUPPORT. Laws/Monad.lean: how the pseudocode of `M` runs, one lemma per construct, so that no proof
unfolds the monad. -/

namespace Sys2Proof.Machine

variable {α β : Type}

theorem M.bind_of_ok {m : M α} {s t : State} {a : α} (f : α → M β) (h : m s = .ok a t) :
    (m >>= f) s = f a t := by
  show EStateM.bind m f s = _
  simp [EStateM.bind, h]

theorem M.bind_of_error {m : M α} {s t : State} {e : Trap} (f : α → M β) (h : m s = .error e t) :
    (m >>= f) s = .error e t := by
  show EStateM.bind m f s = _
  simp [EStateM.bind, h]

@[simp] theorem M.pure_apply (a : α) (s : State) : (pure a : M α) s = .ok a s := rfl
@[simp] theorem M.get_bind (f : State → M β) (s : State) : ((get : M State) >>= f) s = f s s := rfl
@[simp] theorem M.set_bind (t : State) (f : PUnit → M β) (s : State) :
    ((set t : M PUnit) >>= f) s = f ⟨⟩ t := rfl
@[simp] theorem M.modify_bind (g : State → State) (f : PUnit → M β) (s : State) :
    ((modify g : M PUnit) >>= f) s = f ⟨⟩ (g s) := rfl
@[simp] theorem M.pure_bind (a : α) (f : α → M β) (s : State) : ((pure a : M α) >>= f) s = f a s := rfl
@[simp] theorem M.set_apply (t s : State) : (set t : M PUnit) s = .ok ⟨⟩ t := rfl
@[simp] theorem M.modify_apply (g : State → State) (s : State) :
    (modify g : M PUnit) s = .ok ⟨⟩ (g s) := rfl
@[simp] theorem M.map_set (g : PUnit → β) (t s : State) :
    (g <$> (set t : M PUnit)) s = .ok (g ⟨⟩) t := rfl
@[simp] theorem M.map_modify (g : PUnit → β) (k : State → State) (s : State) :
    (g <$> (modify k : M PUnit)) s = .ok (g ⟨⟩) (k s) := rfl
@[simp] theorem M.raise_apply (c : Cause) (s : State) : (raise c : M α) s = .error (.raise c) s := rfl
@[simp] theorem M.refuse_apply (r : Refusal) (s : State) : (refuse r : M α) s = .error (.refuse r) s := rfl
@[simp] theorem M.raise_bind (c : Cause) (f : α → M β) (s : State) :
    ((raise c : M α) >>= f) s = .error (.raise c) s := rfl
@[simp] theorem M.refuse_bind (r : Refusal) (f : α → M β) (s : State) :
    ((refuse r : M α) >>= f) s = .error (.refuse r) s := rfl
@[simp] theorem M.stuck_apply (r : Fault) (s : State) :
    (throw (.stuck r) : M α) s = .error (.stuck r) s := rfl

/-- What a sequence that ends well did: its first part ended well, and then its second. -/
theorem M.of_bind_ok {m : M α} {f : α → M β} {s u : State} {b : β} (h : (m >>= f) s = .ok b u) :
    ∃ a t, m s = .ok a t ∧ f a t = .ok b u := by
  change EStateM.bind m f s = _ at h
  unfold EStateM.bind at h
  split at h
  · next a t hm => exact ⟨a, t, hm, h⟩
  · cases h

/-- What a sequence that ends early did: its first part ended early, or its second. -/
theorem M.of_bind_error {m : M α} {f : α → M β} {s u : State} {e : Trap}
    (h : (m >>= f) s = .error e u) :
    m s = .error e u ∨ ∃ a t, m s = .ok a t ∧ f a t = .error e u := by
  change EStateM.bind m f s = _ at h
  unfold EStateM.bind at h
  split at h
  · next a t hm => exact .inr ⟨a, t, hm, h⟩
  · next e' t hm => exact .inl (by rw [hm]; cases h; rfl)

/-! ### Outcomes -/

theorem perform_of_ok {m : M Unit} {s t : State} (h : m s = .ok () t) : perform m s = .next t := by
  simp [perform, h]

theorem perform_of_raise {m : M Unit} {s t : State} {c : Cause} (h : m s = .error (.raise c) t) :
    perform m s = .next (t.takeFault c) := by
  simp [perform, h, trapped]

theorem perform_of_refuse {m : M Unit} {s t : State} {r : Refusal} (h : m s = .error (.refuse r) t) :
    perform m s = .refused r := by
  simp [perform, h, trapped]

theorem perform_of_stuck {m : M Unit} {s t : State} {r : Fault} (h : m s = .error (.stuck r) t) :
    perform m s = .fault r := by
  simp [perform, h, trapped]

theorem perform_raises {m : M Unit} {s t : State} {c : Cause} (h : m s = .error (.raise c) t) :
    Raises (perform m s) c :=
  ⟨t.takeFault c, perform_of_raise h, rfl, rfl⟩

/-- A piece of pseudocode run as an instruction answers a next state in two ways only: it ran to its
end, or it raised a fault. -/
theorem perform_next {m : M Unit} {s t : State} (h : perform m s = .next t) :
    m s = .ok () t ∨ ∃ c u, m s = .error (.raise c) u ∧ t = u.takeFault c := by
  unfold perform at h
  split at h
  · next hm => cases h; exact .inl hm
  · next trap u hm =>
    cases trap with
    | raise c => cases h; exact .inr ⟨c, u, hm, rfl⟩
    | refuse r => cases h
    | stuck r => cases h

/-- A fault entry is the cause in `ERR` and FAULT in `FSM` (60_exceptions.md R292). -/
theorem trapped_raise (c : Cause) (s : State) : trapped (.raise c) s = .next (s.takeFault c) := rfl

end Sys2Proof.Machine
end

