-- ==== Sys2Proof/Laws/BitReader.lean ====
section
/-! SUPPORT. Laws/BitReader.lean: what each BitReader primitive can do, once (40_bitreader.md). -/

namespace Sys2Proof.Machine

theorem Memory.bit_lt (m : Memory) (c : Nat) : m.bit c < 2 := by
  unfold Memory.bit
  exact lt_of_le_of_lt Nat.and_le_right (by decide)

theorem Memory.bit_eq (m : Memory) (c : Nat) : m.bit c = (m.read (c / 8)).toNat / 2 ^ (c % 8) % 2 := by
  simp [Memory.bit, Nat.shiftRight_eq_div_pow, Nat.and_one_is_mod]

/-! ### RB.BIT -/

theorem rbBit_ok {s : State} (h : s.hasBits 1) :
    rbBit s = .ok (s.input.bit s.cur) { s with cur := s.cur + 1 } := by
  have : s.hasBit = true := by simp [State.hasBit, State.hasBits] at *; omega
  simp [rbBit, this]

theorem rbBit_short {s : State} (h : ¬ s.hasBits 1) : rbBit s = .error (.raise .streamTruncated) s := by
  have : s.hasBit = false := by simp [State.hasBit, State.hasBits] at *; omega
  simp [rbBit, this]

/-! ### RB.LSB -/

theorem Memory.lsbField_succ (m : Memory) (c n : Nat) :
    m.lsbField c (n + 1) = m.bit c + 2 * m.lsbField (c + 1) n := by
  simp only [Memory.lsbField, List.range_succ_eq_map, List.map_cons, List.map_map, List.sum_cons,
    Nat.add_zero, Nat.pow_zero, Nat.mul_one]
  congr 1
  rw [← List.sum_map_mul_left]
  congr 1
  apply List.map_congr_left
  intro i _
  simp only [Function.comp_apply, pow_succ]
  rw [show c + (i + 1) = c + 1 + i by omega]
  ring

@[simp] theorem Memory.lsbField_zero (m : Memory) (c : Nat) : m.lsbField c 0 = 0 := rfl

theorem Memory.lsbField_lt (m : Memory) (c n : Nat) : m.lsbField c n < 2 ^ n := by
  induction n generalizing c with
  | zero => simp
  | succ n ih =>
    have := ih (c + 1)
    have := m.bit_lt c
    rw [Memory.lsbField_succ, pow_succ]
    omega

theorem or_shift_eq_add {v b i : Nat} (hv : v < 2 ^ i) : v ||| (b <<< i) = v + b * 2 ^ i := by
  rw [Nat.or_comm, Nat.shiftLeft_eq, Nat.mul_comm, ← Nat.two_pow_add_eq_or_of_lt hv]
  omega

theorem rbLsbLoop_ok {n : Nat} (i v : Nat) {s : State} (hv : v < 2 ^ i) (h : s.hasBits n) :
    rbLsbLoop n i v s = .ok (v + s.input.lsbField s.cur n * 2 ^ i) { s with cur := s.cur + n } := by
  induction n generalizing i v s with
  | zero => simp [rbLsbLoop]
  | succ n ih =>
    have h1 : s.hasBits 1 := by simp only [State.hasBits] at *; omega
    rw [rbLsbLoop, M.bind_of_ok _ (rbBit_ok h1), or_shift_eq_add hv]
    have hb := s.input.bit_lt s.cur
    have hv' : v + s.input.bit s.cur * 2 ^ i < 2 ^ (i + 1) := by
      rw [pow_succ]
      nlinarith [Nat.two_pow_pos i]
    rw [ih (i + 1) _ hv' (by simp only [State.hasBits] at *; omega)]
    simp only [Memory.lsbField_succ]
    congr 1
    · rw [pow_succ]; ring
    · simp only [Nat.add_assoc, Nat.add_comm 1 n]

/-- RB.LSB with enough bits left: the LSB-first field at the cursor, which moves past it (R133). -/
theorem rbLsb_ok {n : Nat} {s : State} (h : s.hasBits n) :
    rbLsb n s = .ok (s.input.lsbField s.cur n) { s with cur := s.cur + n } := by
  rw [rbLsb, rbLsbLoop_ok 0 0 (by simp) h]
  simp

theorem rbLsbLoop_short {n : Nat} (i v : Nat) {s : State} (hc : s.cur ≤ 8 * s.inLen)
    (h : ¬ s.hasBits n) : ∃ t, rbLsbLoop n i v s = .error (.raise .streamTruncated) t := by
  induction n generalizing i v s with
  | zero => simp only [State.hasBits] at h; omega
  | succ n ih =>
    by_cases h1 : s.hasBits 1
    · rw [rbLsbLoop, M.bind_of_ok _ (rbBit_ok h1)]
      exact ih _ _ (by simp only [State.hasBits] at *; omega) (by simp only [State.hasBits] at *; omega)
    · exact ⟨s, by rw [rbLsbLoop, M.bind_of_error _ (rbBit_short h1)]⟩

/-- RB.LSB with too few bits left raises StreamTruncated (R133, R136). -/
theorem rbLsb_short {n : Nat} {s : State} (hc : s.cur ≤ 8 * s.inLen) (h : ¬ s.hasBits n) :
    ∃ t, rbLsb n s = .error (.raise .streamTruncated) t :=
  rbLsbLoop_short 0 0 hc h

/-- The same of a field of at least one bit, wherever the cursor stands (R136). -/
theorem rbLsb_short_of_pos {n : Nat} {s : State} (hn : n ≠ 0) (h : ¬ s.hasBits n) :
    ∃ t, rbLsb n s = .error (.raise .streamTruncated) t := by
  by_cases hc : s.cur ≤ 8 * s.inLen
  · exact rbLsb_short hc h
  · obtain ⟨n, rfl⟩ := Nat.exists_eq_succ_of_ne_zero hn
    have h1 : ¬ s.hasBits 1 := by simp only [State.hasBits]; omega
    exact ⟨s, by rw [rbLsb, rbLsbLoop, M.bind_of_error _ (rbBit_short h1)]⟩

/-! ### RB.MSB -/

theorem Memory.msbField_succ (m : Memory) (c n : Nat) :
    m.msbField c (n + 1) = m.bit c * 2 ^ n + m.msbField (c + 1) n := by
  simp only [Memory.msbField, List.range_succ_eq_map, List.map_cons, List.map_map, List.sum_cons,
    Nat.add_zero]
  congr 2
  apply List.map_congr_left
  intro i _
  simp only [Function.comp_apply]
  rw [show c + (i + 1) = c + 1 + i by omega, show n + 1 - 1 - (i + 1) = n - 1 - i by omega]

@[simp] theorem Memory.msbField_zero (m : Memory) (c : Nat) : m.msbField c 0 = 0 := rfl

theorem Memory.msbField_lt (m : Memory) (c n : Nat) : m.msbField c n < 2 ^ n := by
  induction n generalizing c with
  | zero => simp
  | succ n ih =>
    have := ih (c + 1)
    have hb := m.bit_lt c
    rw [Memory.msbField_succ, pow_succ]
    nlinarith [Nat.two_pow_pos n]

theorem shift_or_eq_add {v b : Nat} (hb : b < 2) : (v <<< 1) ||| b = 2 * v + b := by
  rw [Nat.shiftLeft_eq, Nat.mul_comm, ← Nat.two_pow_add_eq_or_of_lt (by simpa using hb)]

theorem rbMsbLoop_ok {n : Nat} (v : Nat) {s : State} (h : s.hasBits n) :
    rbMsbLoop n v s = .ok (v * 2 ^ n + s.input.msbField s.cur n) { s with cur := s.cur + n } := by
  induction n generalizing v s with
  | zero => simp [rbMsbLoop]
  | succ n ih =>
    have h1 : s.hasBits 1 := by simp only [State.hasBits] at *; omega
    rw [rbMsbLoop, M.bind_of_ok _ (rbBit_ok h1), shift_or_eq_add (s.input.bit_lt s.cur),
      ih _ (by simp only [State.hasBits] at *; omega)]
    simp only [Memory.msbField_succ]
    congr 1
    · rw [pow_succ]; ring
    · simp only [Nat.add_assoc, Nat.add_comm 1 n]

/-- RB.MSB with enough bits left: the MSB-first value at the cursor, which moves past it (R132). -/
theorem rbMsb_ok {n : Nat} {s : State} (h : s.hasBits n) :
    rbMsb n s = .ok (s.input.msbField s.cur n) { s with cur := s.cur + n } := by
  rw [rbMsb, rbMsbLoop_ok 0 h]
  simp

theorem rbMsbLoop_short {n : Nat} (v : Nat) {s : State} (hc : s.cur ≤ 8 * s.inLen)
    (h : ¬ s.hasBits n) : ∃ t, rbMsbLoop n v s = .error (.raise .streamTruncated) t := by
  induction n generalizing v s with
  | zero => simp only [State.hasBits] at h; omega
  | succ n ih =>
    by_cases h1 : s.hasBits 1
    · rw [rbMsbLoop, M.bind_of_ok _ (rbBit_ok h1)]
      exact ih _ (by simp only [State.hasBits] at *; omega) (by simp only [State.hasBits] at *; omega)
    · exact ⟨s, by rw [rbMsbLoop, M.bind_of_error _ (rbBit_short h1)]⟩

/-- RB.MSB with too few bits left raises StreamTruncated (R132, R136). -/
theorem rbMsb_short {n : Nat} {s : State} (hc : s.cur ≤ 8 * s.inLen) (h : ¬ s.hasBits n) :
    ∃ t, rbMsb n s = .error (.raise .streamTruncated) t :=
  rbMsbLoop_short 0 hc h

/-- The same of a field of at least one bit, wherever the cursor stands (R136). -/
theorem rbMsb_short_of_pos {n : Nat} {s : State} (hn : n ≠ 0) (h : ¬ s.hasBits n) :
    ∃ t, rbMsb n s = .error (.raise .streamTruncated) t := by
  by_cases hc : s.cur ≤ 8 * s.inLen
  · exact rbMsb_short hc h
  · obtain ⟨n, rfl⟩ := Nat.exists_eq_succ_of_ne_zero hn
    have h1 : ¬ s.hasBits 1 := by simp only [State.hasBits]; omega
    exact ⟨s, by rw [rbMsb, rbMsbLoop, M.bind_of_error _ (rbBit_short h1)]⟩

/-! ### RB.BYTES and RB.ALIGN -/

/-- RB.BYTES at a byte boundary with enough bytes left (R134). -/
theorem rbBytes_ok {n : Nat} {s : State} (ha : s.cur % 8 = 0) (h : s.cur / 8 + n ≤ s.inLen) :
    rbBytes n s = .ok (s.input.bytes (s.cur / 8) n) { s with cur := s.cur + 8 * n } := by
  have h' : ¬ s.inLen < s.cur / 8 + n := by omega
  simp [rbBytes, State.aligned, ha, h']

/-- RB.BYTES at a byte boundary with too few bytes left raises StreamTruncated, nothing read (R134). -/
theorem rbBytes_short {n : Nat} {s : State} (ha : s.cur % 8 = 0) (h : s.inLen < s.cur / 8 + n) :
    rbBytes n s = .error (.raise .streamTruncated) s := by
  simp [rbBytes, State.aligned, ha, h]

/-- RB.BYTES off a byte boundary is refused (R70, decision D19). -/
theorem rbBytes_unaligned {n : Nat} {s : State} (ha : s.cur % 8 ≠ 0) :
    rbBytes n s = .error (.refuse .unalignedBytes) s := by
  simp [rbBytes, State.aligned, ha]

/-- RB.ALIGN goes to the next multiple of 8 (R135). -/
theorem rbAlign_ok (s : State) : rbAlign s = .ok () { s with cur := (s.cur + 7) / 8 * 8 } := by
  simp only [rbAlign, M.modify_apply, State.aligned, beq_iff_eq]
  split
  · rw [show (s.cur + 7) / 8 * 8 = s.cur by omega]
  · rw [show s.cur + (8 - s.cur % 8) = (s.cur + 7) / 8 * 8 by omega]

end Sys2Proof.Machine
end

