-- ==== Sys2Proof/Laws/Dispatch.lean ====
section
/-! SUPPORT. Laws/Dispatch.lean: what exec runs for the rows of a class, by the number of their word. -/

namespace Sys2Proof.Machine

/-! ### Words of the rows -/

/-- A row found in a table stands at its number. -/
theorem getElem?_of_decodeRow {rows : List Instr} {e : DecodeError} {k : Nat} {i : Instr}
    (h : decodeRow rows e k = .ok i) : rows[k]? = some i := by
  unfold decodeRow at h
  split at h
  · cases h; assumption
  · cases h

/-- The literal/length table lists its rows by their symbols (30_encoding.md R97). -/
theorem llRows_words : llRows.map encode = (List.range llSize).map (ElementWord.mk .ll) := by
  decide +kernel

/-- A literal/length row found by its symbol has that symbol's word. -/
theorem encode_of_decode_ll {k : Nat} {i : Instr} (h : decode ⟨.ll, k⟩ = .ok i) : encode i = ⟨.ll, k⟩ := by
  have hi := congrArg (·[k]?) llRows_words
  simp only [List.getElem?_map, getElem?_of_decodeRow h, Option.map_some] at hi
  obtain ⟨n, hn, he⟩ := Option.map_eq_some_iff.mp hi.symm
  obtain ⟨_, rfl⟩ := List.getElem?_eq_some_iff.mp hn
  rw [← he, List.getElem_range]

/-- The distance table lists its rows by their codes (30_encoding.md R99). -/
theorem encode_of_decode_d {k : Nat} {i : Instr} (h : decode ⟨.d, k⟩ = .ok i) : encode i = ⟨.d, k⟩ := by
  have all : ∀ n (hn : n < dRows.length), encode dRows[n] = ⟨.d, n⟩ := by decide
  obtain ⟨hk, rfl⟩ := List.getElem?_eq_some_iff.mp (getElem?_of_decodeRow h)
  exact all k hk

/-- The code-length table lists its rows by their symbols (30_encoding.md R96). -/
theorem encode_of_decode_cl {k : Nat} {i : Instr} (h : decode ⟨.cl, k⟩ = .ok i) : encode i = ⟨.cl, k⟩ := by
  have all : ∀ n (hn : n < clRows.length), encode clRows[n] = ⟨.cl, n⟩ := by decide
  obtain ⟨hk, rfl⟩ := List.getElem?_eq_some_iff.mp (getElem?_of_decodeRow h)
  exact all k hk

/-! ### Meanings by class -/

/-- Every literal row appends its number (45_lz77.md R221). -/
theorem exec_literal {i : Instr} {k : Nat} (h : encode i = ⟨.ll, k⟩) (hk : k < 256) (s : State) :
    exec i s = perform (literal k) s := by
  cases i <;> cases h <;> first | rfl | exact absurd hk (by decide)

/-- Every length row of no extra bits (45_lz77.md R223). -/
theorem exec_shortLength {i : Instr} {k : Nat} (h : encode i = ⟨.ll, k⟩) (lo : 257 ≤ k) (hi : k ≤ 264)
    (s : State) : exec i s = perform (thenDistance (shortLengthSymbol k)) s := by
  cases i <;> cases h <;> first | rfl | exact absurd lo (by decide) | exact absurd hi (by decide)

/-- Every length row with extra bits (45_lz77.md R224). -/
theorem exec_longLength {i : Instr} {k : Nat} (h : encode i = ⟨.ll, k⟩) (lo : 265 ≤ k) (hi : k ≤ 284)
    (s : State) : exec i s = perform (thenDistance (longLengthSymbol k)) s := by
  cases i <;> cases h <;> first | rfl | exact absurd lo (by decide) | exact absurd hi (by decide)

/-- Every distance row, the invalid ones too (45_lz77.md R229 to R231). -/
theorem exec_distance {i : Instr} {k : Nat} (h : encode i = ⟨.d, k⟩) (s : State) :
    exec i s = perform (thenCopy (distanceCode k)) s := by
  cases i <;> cases h <;> rfl

/-- Every code-length row (44_dynamic.md R197 to R200). -/
theorem exec_codeLength {i : Instr} {k : Nat} (h : encode i = ⟨.cl, k⟩) (s : State) :
    exec i s = perform (codeLengthSymbol k) s := by
  cases i <;> cases h <;> rfl

end Sys2Proof.Machine
end

