-- ==== Sys2Proof/Laws/Huffman.lean ====
section
/-! SUPPORT. Laws/Huffman.lean: what HT.BUILD does with its table, and where the descent of HT.DECODE ends. -/

namespace Sys2Proof.Machine

/-! ### HT.BUILD -/

/-- The tree step 3 builds from a table (41_huffman.md R154). -/
abbrev builtTree (lengths : List Nat) : Tree :=
  (assignCodes lengths 0 (firstCodes (countLengths lengths)) emptyRoot).2

/-- An over-subscribed table raises before any tree is written (R153). -/
theorem htBuild_over {t : TreeSel} {s : State} (h : overSubscribed (countLengths (s.lengthsOf t)) = true) :
    htBuild t s = .error (.raise .malformedHuffmanTable) { s with blCount := countLengths (s.lengthsOf t) } := by
  cases t <;> (simp only [State.lengthsOf] at h; simp [htBuild, h, State.lengthsOf])

/-- Every other table is built: the builder's registers and the one tree register are written (R150). -/
theorem htBuild_ok {t : TreeSel} {s : State} (h : overSubscribed (countLengths (s.lengthsOf t)) = false) :
    htBuild t s = .ok () (State.setTree { s with
      blCount := countLengths (s.lengthsOf t)
      nextCode := (assignCodes (s.lengthsOf t) 0 (firstCodes (countLengths (s.lengthsOf t))) emptyRoot).1
      code := firstCode (countLengths (s.lengthsOf t)) maxBits } t (builtTree (s.lengthsOf t))) := by
  cases t <;> (simp only [State.lengthsOf] at h; simp [htBuild, h, State.lengthsOf, State.setTree])

@[simp] theorem State.tree_setTree (s : State) (t : TreeSel) (tree : Tree) : (s.setTree t tree).tree t = tree := by
  cases t <;> rfl

/-- The counting loop, from any counts. -/
theorem countLengths_fold (lengths counts : List Nat) (hc : counts.length = maxBits + 1)
    (hl : ∀ l ∈ lengths, l ≤ maxBits) (n : Nat) :
    (lengths.foldl (fun counts l => if l = 0 then counts else counts.set l (counts.getD l 0 + 1)) counts).getD n 0 =
      counts.getD n 0 + if n = 0 then 0 else lengths.count n := by
  induction lengths generalizing counts with
  | nil => simp
  | cons l ls ih =>
    have hls : ∀ k ∈ ls, k ≤ maxBits := fun k hk => hl k (by simp [hk])
    have hlb : l < counts.length := by have := hl l (by simp); omega
    rw [List.foldl_cons]
    split
    · next h0 =>
      rw [ih counts hc hls, List.count_cons]
      by_cases hn : n = 0
      · simp [hn]
      · have : ¬ l = n := by omega
        simp [hn, this]
    · next h0 =>
      rw [ih _ (by simpa using hc) hls, List.count_cons]
      by_cases hn : n = 0
      · subst hn
        simp only [List.getD_eq_getElem?_getD, List.getElem?_set, if_neg h0]
        simp
      · by_cases hln : l = n
        · subst hln
          simp [hn, hlb, List.getD_eq_getElem?_getD]
          omega
        · simp [hn, hln, List.getD_eq_getElem?_getD]

/-- `BL_COUNT[L]` is the number of symbols of length L, and `BL_COUNT[0]` is 0 (R151). -/
theorem countLengths_getD {lengths : List Nat} (hl : ∀ l ∈ lengths, l ≤ maxBits) (n : Nat) :
    (countLengths lengths).getD n 0 = if n = 0 then 0 else lengths.count n := by
  have h0 : (List.replicate (maxBits + 1) 0).getD n 0 = 0 := by
    simp only [List.getD_eq_getElem?_getD, List.getElem?_replicate]
    split <;> rfl
  rw [countLengths, countLengths_fold _ _ (by simp) hl, h0, Nat.zero_add]

/-! ### The trees step 3 builds -/

/-- Following the code just inserted ends on its symbol (R154). -/
theorem Tree.follow_insert (tree : Tree) (l c sym : Nat) :
    (tree.insert l c sym).follow l c = .node (tree.follow l c).left (tree.follow l c).right (some sym) := by
  induction l generalizing tree with
  | zero => rfl
  | succ l ih =>
    by_cases h : c.testBit l <;> simp [Tree.insert, Tree.follow, h, Tree.left, Tree.right, ih]

/-- Inserting a symbol of the alphabet keeps every symbol in the alphabet. -/
theorem Tree.symbolsBelow_insert {n sym : Nat} (hs : sym < n) (l c : Nat) {tree : Tree}
    (h : tree.symbolsBelow n = true) : (tree.insert l c sym).symbolsBelow n = true := by
  induction l generalizing tree with
  | zero => cases tree <;> simp_all [Tree.insert, Tree.symbolsBelow, Tree.left, Tree.right]
  | succ l ih =>
    cases tree with
    | none =>
      have := ih (tree := .none) rfl
      by_cases hb : c.testBit l <;>
        simp [Tree.insert, Tree.symbolsBelow, Tree.left, Tree.right, Tree.symbol, hb, this]
    | node x y v =>
      simp only [Tree.symbolsBelow, Bool.and_eq_true] at h
      have hx := ih (tree := x) h.1.1
      have hy := ih (tree := y) h.1.2
      by_cases hb : c.testBit l <;>
        simp [Tree.insert, Tree.symbolsBelow, Tree.left, Tree.right, Tree.symbol, hb, hx, hy, h.1.1, h.1.2, h.2]

/-- A code has at least one bit, so the root stays without a symbol (R159). -/
theorem Tree.built_insert {n sym : Nat} (hs : sym < n) {l : Nat} (hl : l ≠ 0) (c : Nat) {tree : Tree}
    (h : tree.built n = true) : (tree.insert l c sym).built n = true := by
  obtain ⟨l, rfl⟩ := Nat.exists_eq_succ_of_ne_zero hl
  match tree, h with
  | .node x y Option.none, h =>
    simp only [Tree.built, Bool.and_eq_true] at h
    by_cases hb : c.testBit l <;>
      simp [Tree.insert, Tree.built, Tree.left, Tree.right, Tree.symbol, hb, h.1, h.2,
        Tree.symbolsBelow_insert hs]

/-- Step 3 leaves a tree of its alphabet (R154). -/
theorem assignCodes_built {n : Nat} (lengths : List Nat) (sym : Nat) (nextCode : List Nat) {tree : Tree}
    (hn : sym + lengths.length ≤ n) (h : tree.built n = true) :
    (assignCodes lengths sym nextCode tree).2.built n = true := by
  induction lengths generalizing sym nextCode tree with
  | nil => exact h
  | cons l ls ih =>
    simp only [List.length_cons] at hn
    rw [assignCodes]
    split
    · exact ih _ _ (by omega) h
    · next hl => exact ih _ _ (by omega) (Tree.built_insert (by omega) hl _ h)

theorem builtTree_built (lengths : List Nat) : (builtTree lengths).built lengths.length = true :=
  assignCodes_built _ _ _ (by omega) rfl

/-! ### HT.DECODE -/

@[simp] theorem htDecode_apply (t : TreeSel) (s : State) : htDecode t s = (s.tree t).descend s := rfl

theorem Tree.isNone_iff {t : Tree} : t.isNone = true ↔ t = .none := by cases t <;> simp [Tree.isNone]

@[simp] theorem Tree.follow_none (l c : Nat) : Tree.none.follow l c = .none := by
  induction l with
  | zero => rfl
  | succ l ih => simp [Tree.follow, Tree.left, Tree.right, ih]

/-- Only the low bits of the code are followed. -/
theorem Tree.follow_mod (t : Tree) (l c d : Nat) (h : ∀ i, i < l → c.testBit i = d.testBit i) :
    t.follow l c = t.follow l d := by
  induction l generalizing t with
  | zero => rfl
  | succ l ih =>
    simp only [Tree.follow, h l (by omega), ih _ (fun i hi => h i (by omega))]

/-- A register without a tree has no node to start from (log 11). -/
theorem Tree.descend_none (s : State) : Tree.none.descend s = .error (.refuse .noTree) s := rfl

/-- A leaf gives its symbol, nothing read (R156). -/
theorem Tree.descend_leaf (sym : Nat) (s : State) : (Tree.leaf sym).descend s = .ok sym s := rfl

/-- An empty leaf is malformed, nothing read (R157 b). -/
theorem Tree.descend_empty (s : State) :
    (Tree.node .none .none Option.none).descend s = .error (.raise .malformedHuffmanTable) s := rfl

/-- At an inner node with no bit left the stream is truncated (R160). -/
theorem Tree.descend_short {x y : Tree} {sym : Option Nat} {s : State} (hi : x ≠ .none ∨ y ≠ .none)
    (h : ¬ s.hasBits 1) : (Tree.node x y sym).descend s = .error (.raise .streamTruncated) s := by
  have : (x.isNone && y.isNone) = false := by
    rw [Bool.eq_false_iff]
    simp only [ne_eq, Bool.and_eq_true, Tree.isNone_iff]
    tauto
  unfold Tree.descend
  simp only [this, Bool.false_eq_true, if_false]
  rw [M.bind_of_error _ (rbBit_short h)]

/-- At an inner node a bit is read, and its child is missing or is where the descent goes on (R156, R157 a). -/
theorem Tree.descend_inner {x y : Tree} {sym : Option Nat} {s : State} (hi : x ≠ .none ∨ y ≠ .none)
    (h : s.hasBits 1) :
    (Tree.node x y sym).descend s =
      if (if s.input.bit s.cur = 1 then y else x) = .none then
        .error (.raise .malformedHuffmanTable) { s with cur := s.cur + 1 }
      else (if s.input.bit s.cur = 1 then y else x).descend { s with cur := s.cur + 1 } := by
  have : (x.isNone && y.isNone) = false := by
    rw [Bool.eq_false_iff]
    simp only [ne_eq, Bool.and_eq_true, Tree.isNone_iff]
    tauto
  conv_lhs => unfold Tree.descend
  simp only [this, Bool.false_eq_true, if_false]
  rw [M.bind_of_ok _ (rbBit_ok h)]
  by_cases hb : s.input.bit s.cur = 1
  · simp only [hb, if_true]
    by_cases hy : y = .none
    · subst hy; rfl
    · have : y.isNone = false := by rw [Bool.eq_false_iff]; simpa [Tree.isNone_iff] using hy
      simp [hy, this]
  · simp only [hb, if_false]
    by_cases hx : x = .none
    · subst hx; rfl
    · have : x.isNone = false := by rw [Bool.eq_false_iff]; simpa [Tree.isNone_iff] using hx
      simp [hx, this]

/-- The first bit of a code decides the first turn. -/
theorem Tree.follow_msbField_succ (tree : Tree) (m : Memory) (c l : Nat) :
    tree.follow (l + 1) (m.msbField c (l + 1)) =
      (if m.bit c = 1 then tree.right else tree.left).follow l (m.msbField (c + 1) l) := by
  have hlt := m.msbField_lt (c + 1) l
  have hb := m.bit_lt c
  have hlow : ∀ i, i < l → (m.bit c * 2 ^ l + m.msbField (c + 1) l).testBit i =
      (m.msbField (c + 1) l).testBit i := by
    intro i hi
    rw [Nat.mul_comm, Nat.testBit_two_pow_mul_add _ hlt, if_pos hi]
  have htop : (m.bit c * 2 ^ l + m.msbField (c + 1) l).testBit l = decide (m.bit c = 1) := by
    rw [Nat.mul_comm, Nat.testBit_two_pow_mul_add _ hlt, if_neg (by omega), Nat.sub_self]
    interval_cases m.bit c <;> rfl
  rw [Memory.msbField_succ, Tree.follow, htop, Tree.follow_mod _ _ _ _ hlow, Tree.follow_mod _ _ _ _ hlow]
  by_cases h : m.bit c = 1 <;> simp [h]

/-- As long as the next bits lead to a node, the descent goes there and reads exactly those bits. -/
theorem Tree.descend_follow {tree x y : Tree} {sym : Option Nat} {l : Nat} {s : State} (hb : s.hasBits l)
    (h : tree.follow l (s.input.msbField s.cur l) = .node x y sym) :
    tree.descend s = (Tree.node x y sym).descend { s with cur := s.cur + l } := by
  induction l generalizing tree s with
  | zero =>
    have : tree = .node x y sym := h
    rw [this]
    rfl
  | succ l ih =>
    rw [Tree.follow_msbField_succ] at h
    cases tree with
    | none => simp [Tree.left, Tree.right] at h
    | node a b v =>
      have h1 : s.hasBits 1 := by simp only [State.hasBits] at *; omega
      simp only [Tree.left, Tree.right] at h
      have hc : (if s.input.bit s.cur = 1 then b else a) ≠ .none := by
        intro hn
        rw [hn] at h
        simp at h
      have hi : a ≠ .none ∨ b ≠ .none := by
        by_contra hn
        push Not at hn
        exact hc (by simp [hn.1, hn.2])
      rw [Tree.descend_inner hi h1, if_neg hc]
      have := ih (tree := if s.input.bit s.cur = 1 then b else a) (s := { s with cur := s.cur + 1 })
        (by simp only [State.hasBits] at *; omega) h
      rw [this]
      simp [Nat.add_assoc, Nat.add_comm 1 l]

/-- The symbol whose path the next bits spell is returned, and those bits are consumed (R156). -/
theorem Tree.descend_code {tree : Tree} {l sym : Nat} {s : State} (h : s.codeAhead tree l sym) :
    tree.descend s = .ok sym { s with cur := s.cur + l } := by
  rw [Tree.descend_follow h.1 (show _ = Tree.node .none .none (some sym) from h.2)]
  rfl

/-- A descent that ends well has read the code of its symbol, and nothing else (R156, R158). -/
theorem Tree.of_descend_ok {tree : Tree} {s u : State} {sym : Nat} (h : tree.descend s = .ok sym u) :
    ∃ l, (l ≠ 0 → s.hasBits l) ∧ tree.follow l (s.input.msbField s.cur l) = Tree.leaf sym ∧
      u = { s with cur := s.cur + l } := by
  induction tree generalizing s with
  | none => cases h
  | node x y v ihx ihy =>
    by_cases hi : x ≠ .none ∨ y ≠ .none
    · by_cases h1 : s.hasBits 1
      · rw [Tree.descend_inner hi h1] at h
        by_cases hn : (if s.input.bit s.cur = 1 then y else x) = .none
        · rw [if_pos hn] at h
          cases h
        · rw [if_neg hn] at h
          have step : ∃ l, (l ≠ 0 → s.cur + 1 + l ≤ 8 * s.inLen) ∧
              (if s.input.bit s.cur = 1 then y else x).follow l (s.input.msbField (s.cur + 1) l) = Tree.leaf sym ∧
              u = { s with cur := s.cur + 1 + l } := by
            by_cases hb : s.input.bit s.cur = 1
            · simp only [hb, if_true] at h ⊢
              exact ihy h
            · simp only [hb, if_false] at h ⊢
              exact ihx h
          obtain ⟨l, hl, hf, rfl⟩ := step
          refine ⟨l + 1, ?_, ?_, ?_⟩
          · simp only [State.hasBits] at *
            intro _
            by_cases h0 : l = 0
            · omega
            · have := hl h0; omega
          · rw [Tree.follow_msbField_succ]
            exact hf
          · simp [Nat.add_assoc, Nat.add_comm 1 l]
      · rw [Tree.descend_short hi h1] at h
        cases h
    · push Not at hi
      obtain ⟨rfl, rfl⟩ := hi
      cases v with
      | none => cases h
      | some v =>
        cases h
        exact ⟨0, by simp, rfl, rfl⟩

/-- Run on its own before any fault, HT.DECODE raises exactly what its descent raises (R156). -/
theorem exec_htDecode_raises {t : TreeSel} {s : State} {c : Cause} (hs : s.fsm ≠ .fault) :
    Raises (exec (.htDecode t) s) c ↔ ∃ u, htDecode t s = .error (.raise c) u := by
  constructor
  · rintro ⟨v, hv, hf, rfl⟩
    obtain h | ⟨c, u, h, rfl⟩ := perform_next (show perform (returning (htDecode t)) s = .next v from hv)
    · obtain ⟨sym, w, hd, hw⟩ := M.of_bind_ok h
      obtain ⟨l, -, -, rfl⟩ := Tree.of_descend_ok hd
      cases hw
      exact absurd hf hs
    · obtain h | ⟨sym, w, -, hw⟩ := M.of_bind_error h
      · exact ⟨u, h⟩
      · cases hw
  · rintro ⟨u, h⟩
    exact perform_raises (m := returning (htDecode t)) (M.bind_of_error _ h)

end Sys2Proof.Machine
end

