-- ==== Sys2Proof/Laws/Elements.lean ====
section
/-! SUPPORT. Laws/Elements.lean: one lemma for each outcome of the operations the elements are made of. -/

namespace Sys2Proof.Machine

/-! ### Lengths -/

@[simp] theorem literal_apply (sym : Nat) (s : State) : literal sym s = .ok () (s.append (BitVec.ofNat 8 sym)) := rfl

@[simp] theorem shortLengthSymbol_apply (sym : Nat) (s : State) :
    shortLengthSymbol sym s = .ok () { s with length := shortLength sym } := rfl

@[simp] theorem longestLengthSymbol_apply (s : State) :
    longestLengthSymbol s = .ok () { s with length := longestLength } := rfl

/-- A length symbol with extra bits, with those bits there (45_lz77.md R224). -/
theorem longLengthSymbol_ok {sym : Nat} {s : State} (h : s.hasBits (lengthEbits sym)) :
    longLengthSymbol sym s = .ok () { s with
      cur := s.cur + lengthEbits sym
      ebits := lengthEbits sym
      extra := s.input.lsbField s.cur (lengthEbits sym)
      length := longLength sym (lengthEbits sym) (s.input.lsbField s.cur (lengthEbits sym)) } := by
  have h' : State.hasBits { s with ebits := lengthEbits sym } (lengthEbits sym) := h
  simp only [longLengthSymbol, M.modify_bind]
  rw [M.bind_of_ok _ (rbLsb_ok h')]
  rfl

/-- A length symbol whose extra bits are missing (R224). -/
theorem longLengthSymbol_short {sym : Nat} {s : State} (hc : s.cur ≤ 8 * s.inLen)
    (h : ¬ s.hasBits (lengthEbits sym)) : ∃ t, longLengthSymbol sym s = .error (.raise .streamTruncated) t := by
  obtain ⟨t, ht⟩ := rbLsb_short (s := { s with ebits := lengthEbits sym }) hc h
  exact ⟨t, by simp only [longLengthSymbol, M.modify_bind]; rw [M.bind_of_error _ ht]⟩

/-! ### Distances -/

@[simp] theorem shortDistanceCode_apply (code : Nat) (s : State) :
    shortDistanceCode code s = .ok () { s with distance := shortDistance code } := rfl

/-- A distance code with extra bits, with those bits there (45_lz77.md R230). -/
theorem longDistanceCode_ok {code : Nat} {s : State} (h : s.hasBits (distanceEbits code)) :
    longDistanceCode code s = .ok () { s with
      cur := s.cur + distanceEbits code
      ebits := distanceEbits code
      extra := s.input.lsbField s.cur (distanceEbits code)
      distance := longDistance code (distanceEbits code) (s.input.lsbField s.cur (distanceEbits code)) } := by
  have h' : State.hasBits { s with ebits := distanceEbits code } (distanceEbits code) := h
  simp only [longDistanceCode, M.modify_bind]
  rw [M.bind_of_ok _ (rbLsb_ok h')]
  rfl

/-- A distance code whose extra bits are missing (R230). -/
theorem longDistanceCode_short {code : Nat} {s : State} (hc : s.cur ≤ 8 * s.inLen)
    (h : ¬ s.hasBits (distanceEbits code)) : ∃ t, longDistanceCode code s = .error (.raise .streamTruncated) t := by
  obtain ⟨t, ht⟩ := rbLsb_short (s := { s with ebits := distanceEbits code }) hc h
  exact ⟨t, by simp only [longDistanceCode, M.modify_bind]; rw [M.bind_of_error _ ht]⟩

/-- In a dynamic block the distance code comes through `DT` (R228). -/
theorem distFetch_tree {s : State} (h : s.dtPresent = true) : distFetch s = s.dt.descend s := by
  simp only [distFetch, M.get_bind, h, if_true]
  rfl

/-- In a fixed block it is five raw bits (43_fixed.md R182). -/
theorem distFetch_raw {s : State} (h : s.dtPresent = false) :
    distFetch s = match s.cfg.fixedDistOrder with
      | .lsb => rbLsb 5 s
      | .msb => rbMsb 5 s := by
  simp only [distFetch, M.get_bind, h, Bool.false_eq_true, if_false]
  cases s.cfg.fixedDistOrder <;> rfl

theorem windowCheck_ok {s : State} (h : s.distance ≤ s.outLen) : windowCheck s = .ok () s := by
  simp [windowCheck, State.distanceInWindow, h]

theorem windowCheck_far {s : State} (h : s.outLen < s.distance) :
    windowCheck s = .error (.raise .distanceTooFar) s := by
  simp [windowCheck, State.distanceInWindow, Nat.not_le.mpr h]

/-! ### COPY -/

/-- One byte of a copy inside the window (45_lz77.md R234). -/
theorem copyByte_ok {s : State} (h1 : 1 ≤ s.distance) (h2 : s.distance ≤ s.outLen) :
    copyByte s = .ok () (s.append (s.out.read (s.outLen - s.distance))) := by
  simp [copyByte, State.windowReadable, h1, h2]

/-- A byte outside the window is refused (log 12). -/
theorem copyByte_outside {s : State} (h : s.distance = 0 ∨ s.outLen < s.distance) :
    copyByte s = .error (.refuse .copyOutsideWindow) s := by
  have : s.windowReadable = false := by
    simp only [State.windowReadable, Bool.and_eq_false_iff, decide_eq_false_iff_not]
    omega
  simp [copyByte, this]

/-- A copy inside the window runs to its end and changes `OUT` only (R234). -/
theorem copyBytes_frame (n : Nat) {s : State} (h1 : 1 ≤ s.distance) (h2 : s.distance ≤ s.outLen) :
    ∃ out, copyBytes n s = .ok () { s with out := out, outLen := s.outLen + n } := by
  induction n generalizing s with
  | zero => exact ⟨s.out, rfl⟩
  | succ n ih =>
    obtain ⟨out, h⟩ := ih (s := s.append (s.out.read (s.outLen - s.distance))) (by simpa using h1)
      (by simp only [State.append_distance, State.append_outLen]; omega)
    refine ⟨out, ?_⟩
    rw [copyBytes, M.bind_of_ok _ (copyByte_ok h1 h2), h]
    simp [State.append, Nat.add_assoc, Nat.add_comm 1 n]

/-! ### The dynamic header -/

theorem readHlit_ok {s : State} (h : s.hasBits 5) :
    readHlit s = .ok () { s with cur := s.cur + 5, hlit := hlitOf (s.input.lsbField s.cur 5) } := by
  rw [readHlit, M.bind_of_ok _ (rbLsb_ok h)]
  rfl

theorem readHdist_ok {s : State} (h : s.hasBits 5) :
    readHdist s = .ok () { s with cur := s.cur + 5, hdist := hdistOf (s.input.lsbField s.cur 5) } := by
  rw [readHdist, M.bind_of_ok _ (rbLsb_ok h)]
  rfl

theorem readHclen_ok {s : State} (h : s.hasBits 4) :
    readHclen s = .ok () { s with cur := s.cur + 4, hclen := hclenOf (s.input.lsbField s.cur 4) } := by
  rw [readHclen, M.bind_of_ok _ (rbLsb_ok h)]
  rfl

/-! ### Code-length symbols -/

@[simp] theorem literalLength_apply (sym : Nat) (s : State) : literalLength sym s = .ok () (s.emitLength sym) := rfl

/-- A run that fits is written (44_dynamic.md R202). -/
theorem emitRun_ok {v : Nat} {s : State} (h : s.cli + s.rep ≤ s.seqLen s.seqTable) :
    emitRun v s = .ok () (s.emitLengths v s.rep) := by
  have : s.runOverflows = false := by simp [State.runOverflows]; omega
  simp [emitRun, this]

/-- A run that does not fit raises before any entry is written (R202). -/
theorem emitRun_over {v : Nat} {s : State} (h : s.seqLen s.seqTable < s.cli + s.rep) :
    emitRun v s = .error (.raise .codeLengthRunOverflow) s := by
  have : s.runOverflows = true := by simp [State.runOverflows]; omega
  simp [emitRun, this]

/-- Emitting lengths writes the running table and `CLI` only (R196). -/
theorem State.emitLengths_frame (v n : Nat) (s : State) :
    s.emitLengths v n =
      { s with cli := s.cli + n, llcl := (s.emitLengths v n).llcl, dcl := (s.emitLengths v n).dcl } := by
  induction n generalizing s with
  | zero => rfl
  | succ n ih =>
    rw [State.emitLengths, ih]
    cases h : s.seqTable <;> simp [State.emitLength, h, Nat.add_assoc, Nat.add_comm 1 n]

/-- Symbol 16 at the start of a sequence (R198). -/
theorem repeatPrevious_first {s : State} (h : s.cli = 0) :
    repeatPrevious s = .error (.raise .codeLengthRepeatWithoutPrevious) s := by
  simp [repeatPrevious, h]

/-- Symbol 16 elsewhere, its extra bits there (R198). -/
theorem repeatPrevious_ok {s : State} (h : 0 < s.cli) (hb : s.hasBits 2) :
    repeatPrevious s = emitRun (s.seqEntry (s.cli - 1))
      { s with cur := s.cur + 2, rep := rep16Of (s.input.lsbField s.cur 2) } := by
  have h0 : ¬ s.cli = 0 := by omega
  simp only [repeatPrevious, M.get_bind, if_neg h0]
  rw [M.bind_of_ok _ (rbLsb_ok hb), M.modify_bind]

/-- Symbol 17, its extra bits there (R199). -/
theorem repeatZero17_ok {s : State} (hb : s.hasBits 3) :
    repeatZero17 s = emitRun 0 { s with cur := s.cur + 3, rep := zero17Of (s.input.lsbField s.cur 3) } := by
  rw [repeatZero17, M.bind_of_ok _ (rbLsb_ok hb), M.modify_bind]

/-- Symbol 18, its extra bits there (R200). -/
theorem repeatZero18_ok {s : State} (hb : s.hasBits 7) :
    repeatZero18 s = emitRun 0 { s with cur := s.cur + 7, rep := zero18Of (s.input.lsbField s.cur 7) } := by
  rw [repeatZero18, M.bind_of_ok _ (rbLsb_ok hb), M.modify_bind]

/-! ### Stepping -/

/-- Every fetched word is decoded and run, or ends the step (46_decode_loop.md R263). -/
theorem step_of_fetch {s t : State} {w : ElementWord} (h : fetch s = .ok w t) : step s = runWord w t := by
  rw [step, h]
  rfl

/-- A fetch that ends early ends the step. -/
theorem step_of_fetch_error {s t : State} {trap : Trap} (h : fetch s = .error trap t) :
    step s = trapped trap t := by
  rw [step, h]
  rfl

/-- A run that is over is settled. -/
theorem settle_over {s : State} (h : s.over = true) : settle s = .ok () s := by
  simp only [settle, M.get_bind, h, if_true]
  rfl

/-- Where an element leaves its decoder waiting for the next one there is nothing to do. -/
theorem settle_waiting {s : State} (h1 : s.phase ≠ .buildClt) (h2 : s.phase ≠ .codeLengths)
    (h3 : s.phase ≠ .returned) : settle s = .ok () s := by
  simp only [settle, M.get_bind]
  split
  · rfl
  · cases hp : s.phase <;> simp_all

end Sys2Proof.Machine
end

