-- ==== Sys2Proof/Laws/PerInstr.lean ====
section
/-! SUPPORT. Laws/PerInstr.lean: statements made once per instruction. -/

namespace Sys2Proof.Laws.WordWidth

/-- The instruction's word lies in its format's space, as wide as the table's masks (30_encoding.md R110);
an operation's number, 0 to 12, is its low byte. -/
def Statement (i : Instr) : Prop :=
  (match (encode i).format.width with
   | some width => decide ((encode i).bits < 2 ^ width)
   | none => decide ((encode i).bits % 256 ≤ 12)) = true

theorem blkStored (f : Bool) : Statement (.blkStored f) := by cases f <;> rfl
theorem blkFixed (f : Bool) : Statement (.blkFixed f) := by cases f <;> rfl
theorem blkDynamic (f : Bool) : Statement (.blkDynamic f) := by cases f <;> rfl
theorem blkReserved (f : Bool) : Statement (.blkReserved f) := by cases f <;> rfl
theorem stHdr : Statement .stHdr := rfl
theorem dhHlit : Statement .dhHlit := rfl
theorem dhHdist : Statement .dhHdist := rfl
theorem dhHclen : Statement .dhHclen := rfl
theorem dhClcl : Statement .dhClcl := rfl
theorem rbBit : Statement .rbBit := rfl
theorem rbMsb (n : Nat) : Statement (.rbMsb n) := by
  show decide ((1 + 256 * _) % 256 ≤ 12) = true
  simp [Nat.add_mul_mod_self_left]
theorem rbLsb (n : Nat) : Statement (.rbLsb n) := by
  show decide ((2 + 256 * _) % 256 ≤ 12) = true
  simp [Nat.add_mul_mod_self_left]
theorem rbBytes (n : Nat) : Statement (.rbBytes n) := by
  show decide ((3 + 256 * _) % 256 ≤ 12) = true
  simp [Nat.add_mul_mod_self_left]
theorem rbAlign : Statement .rbAlign := rfl
theorem htBuild (t : TreeSel) : Statement (.htBuild t) := by cases t <;> rfl
theorem htDecode (t : TreeSel) : Statement (.htDecode t) := by cases t <;> rfl
theorem clseq (t : SeqTable) : Statement (.clseq t) := by cases t <;> rfl
theorem expand : Statement .expand := rfl
theorem copy : Statement .copy := rfl
theorem launch (bytes : List Byte) : Statement (.launch bytes) := by
  show decide ((10 + 256 * _) % 256 ≤ 12) = true
  simp [Nat.add_mul_mod_self_left]
theorem blkHdr : Statement .blkHdr := rfl
theorem result : Statement .result := rfl
theorem clLen0 : Statement .clLen0 := rfl
theorem clLen1 : Statement .clLen1 := rfl
theorem clLen2 : Statement .clLen2 := rfl
theorem clLen3 : Statement .clLen3 := rfl
theorem clLen4 : Statement .clLen4 := rfl
theorem clLen5 : Statement .clLen5 := rfl
theorem clLen6 : Statement .clLen6 := rfl
theorem clLen7 : Statement .clLen7 := rfl
theorem clLen8 : Statement .clLen8 := rfl
theorem clLen9 : Statement .clLen9 := rfl
theorem clLen10 : Statement .clLen10 := rfl
theorem clLen11 : Statement .clLen11 := rfl
theorem clLen12 : Statement .clLen12 := rfl
theorem clLen13 : Statement .clLen13 := rfl
theorem clLen14 : Statement .clLen14 := rfl
theorem clLen15 : Statement .clLen15 := rfl
theorem clRep16 : Statement .clRep16 := rfl
theorem clZero17 : Statement .clZero17 := rfl
theorem clZero18 : Statement .clZero18 := rfl
theorem d0 : Statement .d0 := rfl
theorem d1 : Statement .d1 := rfl
theorem d2 : Statement .d2 := rfl
theorem d3 : Statement .d3 := rfl
theorem d4 : Statement .d4 := rfl
theorem d5 : Statement .d5 := rfl
theorem d6 : Statement .d6 := rfl
theorem d7 : Statement .d7 := rfl
theorem d8 : Statement .d8 := rfl
theorem d9 : Statement .d9 := rfl
theorem d10 : Statement .d10 := rfl
theorem d11 : Statement .d11 := rfl
theorem d12 : Statement .d12 := rfl
theorem d13 : Statement .d13 := rfl
theorem d14 : Statement .d14 := rfl
theorem d15 : Statement .d15 := rfl
theorem d16 : Statement .d16 := rfl
theorem d17 : Statement .d17 := rfl
theorem d18 : Statement .d18 := rfl
theorem d19 : Statement .d19 := rfl
theorem d20 : Statement .d20 := rfl
theorem d21 : Statement .d21 := rfl
theorem d22 : Statement .d22 := rfl
theorem d23 : Statement .d23 := rfl
theorem d24 : Statement .d24 := rfl
theorem d25 : Statement .d25 := rfl
theorem d26 : Statement .d26 := rfl
theorem d27 : Statement .d27 := rfl
theorem d28 : Statement .d28 := rfl
theorem d29 : Statement .d29 := rfl
theorem d30 : Statement .d30 := rfl
theorem d31 : Statement .d31 := rfl
theorem llLit0 : Statement .llLit0 := rfl
theorem llLit1 : Statement .llLit1 := rfl
theorem llLit2 : Statement .llLit2 := rfl
theorem llLit3 : Statement .llLit3 := rfl
theorem llLit4 : Statement .llLit4 := rfl
theorem llLit5 : Statement .llLit5 := rfl
theorem llLit6 : Statement .llLit6 := rfl
theorem llLit7 : Statement .llLit7 := rfl
theorem llLit8 : Statement .llLit8 := rfl
theorem llLit9 : Statement .llLit9 := rfl
theorem llLit10 : Statement .llLit10 := rfl
theorem llLit11 : Statement .llLit11 := rfl
theorem llLit12 : Statement .llLit12 := rfl
theorem llLit13 : Statement .llLit13 := rfl
theorem llLit14 : Statement .llLit14 := rfl
theorem llLit15 : Statement .llLit15 := rfl
theorem llLit16 : Statement .llLit16 := rfl
theorem llLit17 : Statement .llLit17 := rfl
theorem llLit18 : Statement .llLit18 := rfl
theorem llLit19 : Statement .llLit19 := rfl
theorem llLit20 : Statement .llLit20 := rfl
theorem llLit21 : Statement .llLit21 := rfl
theorem llLit22 : Statement .llLit22 := rfl
theorem llLit23 : Statement .llLit23 := rfl
theorem llLit24 : Statement .llLit24 := rfl
theorem llLit25 : Statement .llLit25 := rfl
theorem llLit26 : Statement .llLit26 := rfl
theorem llLit27 : Statement .llLit27 := rfl
theorem llLit28 : Statement .llLit28 := rfl
theorem llLit29 : Statement .llLit29 := rfl
theorem llLit30 : Statement .llLit30 := rfl
theorem llLit31 : Statement .llLit31 := rfl
theorem llLit32 : Statement .llLit32 := rfl
theorem llLit33 : Statement .llLit33 := rfl
theorem llLit34 : Statement .llLit34 := rfl
theorem llLit35 : Statement .llLit35 := rfl
theorem llLit36 : Statement .llLit36 := rfl
theorem llLit37 : Statement .llLit37 := rfl
theorem llLit38 : Statement .llLit38 := rfl
theorem llLit39 : Statement .llLit39 := rfl
theorem llLit40 : Statement .llLit40 := rfl
theorem llLit41 : Statement .llLit41 := rfl
theorem llLit42 : Statement .llLit42 := rfl
theorem llLit43 : Statement .llLit43 := rfl
theorem llLit44 : Statement .llLit44 := rfl
theorem llLit45 : Statement .llLit45 := rfl
theorem llLit46 : Statement .llLit46 := rfl
theorem llLit47 : Statement .llLit47 := rfl
theorem llLit48 : Statement .llLit48 := rfl
theorem llLit49 : Statement .llLit49 := rfl
theorem llLit50 : Statement .llLit50 := rfl
theorem llLit51 : Statement .llLit51 := rfl
theorem llLit52 : Statement .llLit52 := rfl
theorem llLit53 : Statement .llLit53 := rfl
theorem llLit54 : Statement .llLit54 := rfl
theorem llLit55 : Statement .llLit55 := rfl
theorem llLit56 : Statement .llLit56 := rfl
theorem llLit57 : Statement .llLit57 := rfl
theorem llLit58 : Statement .llLit58 := rfl
theorem llLit59 : Statement .llLit59 := rfl
theorem llLit60 : Statement .llLit60 := rfl
theorem llLit61 : Statement .llLit61 := rfl
theorem llLit62 : Statement .llLit62 := rfl
theorem llLit63 : Statement .llLit63 := rfl
theorem llLit64 : Statement .llLit64 := rfl
theorem llLit65 : Statement .llLit65 := rfl
theorem llLit66 : Statement .llLit66 := rfl
theorem llLit67 : Statement .llLit67 := rfl
theorem llLit68 : Statement .llLit68 := rfl
theorem llLit69 : Statement .llLit69 := rfl
theorem llLit70 : Statement .llLit70 := rfl
theorem llLit71 : Statement .llLit71 := rfl
theorem llLit72 : Statement .llLit72 := rfl
theorem llLit73 : Statement .llLit73 := rfl
theorem llLit74 : Statement .llLit74 := rfl
theorem llLit75 : Statement .llLit75 := rfl
theorem llLit76 : Statement .llLit76 := rfl
theorem llLit77 : Statement .llLit77 := rfl
theorem llLit78 : Statement .llLit78 := rfl
theorem llLit79 : Statement .llLit79 := rfl
theorem llLit80 : Statement .llLit80 := rfl
theorem llLit81 : Statement .llLit81 := rfl
theorem llLit82 : Statement .llLit82 := rfl
theorem llLit83 : Statement .llLit83 := rfl
theorem llLit84 : Statement .llLit84 := rfl
theorem llLit85 : Statement .llLit85 := rfl
theorem llLit86 : Statement .llLit86 := rfl
theorem llLit87 : Statement .llLit87 := rfl
theorem llLit88 : Statement .llLit88 := rfl
theorem llLit89 : Statement .llLit89 := rfl
theorem llLit90 : Statement .llLit90 := rfl
theorem llLit91 : Statement .llLit91 := rfl
theorem llLit92 : Statement .llLit92 := rfl
theorem llLit93 : Statement .llLit93 := rfl
theorem llLit94 : Statement .llLit94 := rfl
theorem llLit95 : Statement .llLit95 := rfl
theorem llLit96 : Statement .llLit96 := rfl
theorem llLit97 : Statement .llLit97 := rfl
theorem llLit98 : Statement .llLit98 := rfl
theorem llLit99 : Statement .llLit99 := rfl
theorem llLit100 : Statement .llLit100 := rfl
theorem llLit101 : Statement .llLit101 := rfl
theorem llLit102 : Statement .llLit102 := rfl
theorem llLit103 : Statement .llLit103 := rfl
theorem llLit104 : Statement .llLit104 := rfl
theorem llLit105 : Statement .llLit105 := rfl
theorem llLit106 : Statement .llLit106 := rfl
theorem llLit107 : Statement .llLit107 := rfl
theorem llLit108 : Statement .llLit108 := rfl
theorem llLit109 : Statement .llLit109 := rfl
theorem llLit110 : Statement .llLit110 := rfl
theorem llLit111 : Statement .llLit111 := rfl
theorem llLit112 : Statement .llLit112 := rfl
theorem llLit113 : Statement .llLit113 := rfl
theorem llLit114 : Statement .llLit114 := rfl
theorem llLit115 : Statement .llLit115 := rfl
theorem llLit116 : Statement .llLit116 := rfl
theorem llLit117 : Statement .llLit117 := rfl
theorem llLit118 : Statement .llLit118 := rfl
theorem llLit119 : Statement .llLit119 := rfl
theorem llLit120 : Statement .llLit120 := rfl
theorem llLit121 : Statement .llLit121 := rfl
theorem llLit122 : Statement .llLit122 := rfl
theorem llLit123 : Statement .llLit123 := rfl
theorem llLit124 : Statement .llLit124 := rfl
theorem llLit125 : Statement .llLit125 := rfl
theorem llLit126 : Statement .llLit126 := rfl
theorem llLit127 : Statement .llLit127 := rfl
theorem llLit128 : Statement .llLit128 := rfl
theorem llLit129 : Statement .llLit129 := rfl
theorem llLit130 : Statement .llLit130 := rfl
theorem llLit131 : Statement .llLit131 := rfl
theorem llLit132 : Statement .llLit132 := rfl
theorem llLit133 : Statement .llLit133 := rfl
theorem llLit134 : Statement .llLit134 := rfl
theorem llLit135 : Statement .llLit135 := rfl
theorem llLit136 : Statement .llLit136 := rfl
theorem llLit137 : Statement .llLit137 := rfl
theorem llLit138 : Statement .llLit138 := rfl
theorem llLit139 : Statement .llLit139 := rfl
theorem llLit140 : Statement .llLit140 := rfl
theorem llLit141 : Statement .llLit141 := rfl
theorem llLit142 : Statement .llLit142 := rfl
theorem llLit143 : Statement .llLit143 := rfl
theorem llLit144 : Statement .llLit144 := rfl
theorem llLit145 : Statement .llLit145 := rfl
theorem llLit146 : Statement .llLit146 := rfl
theorem llLit147 : Statement .llLit147 := rfl
theorem llLit148 : Statement .llLit148 := rfl
theorem llLit149 : Statement .llLit149 := rfl
theorem llLit150 : Statement .llLit150 := rfl
theorem llLit151 : Statement .llLit151 := rfl
theorem llLit152 : Statement .llLit152 := rfl
theorem llLit153 : Statement .llLit153 := rfl
theorem llLit154 : Statement .llLit154 := rfl
theorem llLit155 : Statement .llLit155 := rfl
theorem llLit156 : Statement .llLit156 := rfl
theorem llLit157 : Statement .llLit157 := rfl
theorem llLit158 : Statement .llLit158 := rfl
theorem llLit159 : Statement .llLit159 := rfl
theorem llLit160 : Statement .llLit160 := rfl
theorem llLit161 : Statement .llLit161 := rfl
theorem llLit162 : Statement .llLit162 := rfl
theorem llLit163 : Statement .llLit163 := rfl
theorem llLit164 : Statement .llLit164 := rfl
theorem llLit165 : Statement .llLit165 := rfl
theorem llLit166 : Statement .llLit166 := rfl
theorem llLit167 : Statement .llLit167 := rfl
theorem llLit168 : Statement .llLit168 := rfl
theorem llLit169 : Statement .llLit169 := rfl
theorem llLit170 : Statement .llLit170 := rfl
theorem llLit171 : Statement .llLit171 := rfl
theorem llLit172 : Statement .llLit172 := rfl
theorem llLit173 : Statement .llLit173 := rfl
theorem llLit174 : Statement .llLit174 := rfl
theorem llLit175 : Statement .llLit175 := rfl
theorem llLit176 : Statement .llLit176 := rfl
theorem llLit177 : Statement .llLit177 := rfl
theorem llLit178 : Statement .llLit178 := rfl
theorem llLit179 : Statement .llLit179 := rfl
theorem llLit180 : Statement .llLit180 := rfl
theorem llLit181 : Statement .llLit181 := rfl
theorem llLit182 : Statement .llLit182 := rfl
theorem llLit183 : Statement .llLit183 := rfl
theorem llLit184 : Statement .llLit184 := rfl
theorem llLit185 : Statement .llLit185 := rfl
theorem llLit186 : Statement .llLit186 := rfl
theorem llLit187 : Statement .llLit187 := rfl
theorem llLit188 : Statement .llLit188 := rfl
theorem llLit189 : Statement .llLit189 := rfl
theorem llLit190 : Statement .llLit190 := rfl
theorem llLit191 : Statement .llLit191 := rfl
theorem llLit192 : Statement .llLit192 := rfl
theorem llLit193 : Statement .llLit193 := rfl
theorem llLit194 : Statement .llLit194 := rfl
theorem llLit195 : Statement .llLit195 := rfl
theorem llLit196 : Statement .llLit196 := rfl
theorem llLit197 : Statement .llLit197 := rfl
theorem llLit198 : Statement .llLit198 := rfl
theorem llLit199 : Statement .llLit199 := rfl
theorem llLit200 : Statement .llLit200 := rfl
theorem llLit201 : Statement .llLit201 := rfl
theorem llLit202 : Statement .llLit202 := rfl
theorem llLit203 : Statement .llLit203 := rfl
theorem llLit204 : Statement .llLit204 := rfl
theorem llLit205 : Statement .llLit205 := rfl
theorem llLit206 : Statement .llLit206 := rfl
theorem llLit207 : Statement .llLit207 := rfl
theorem llLit208 : Statement .llLit208 := rfl
theorem llLit209 : Statement .llLit209 := rfl
theorem llLit210 : Statement .llLit210 := rfl
theorem llLit211 : Statement .llLit211 := rfl
theorem llLit212 : Statement .llLit212 := rfl
theorem llLit213 : Statement .llLit213 := rfl
theorem llLit214 : Statement .llLit214 := rfl
theorem llLit215 : Statement .llLit215 := rfl
theorem llLit216 : Statement .llLit216 := rfl
theorem llLit217 : Statement .llLit217 := rfl
theorem llLit218 : Statement .llLit218 := rfl
theorem llLit219 : Statement .llLit219 := rfl
theorem llLit220 : Statement .llLit220 := rfl
theorem llLit221 : Statement .llLit221 := rfl
theorem llLit222 : Statement .llLit222 := rfl
theorem llLit223 : Statement .llLit223 := rfl
theorem llLit224 : Statement .llLit224 := rfl
theorem llLit225 : Statement .llLit225 := rfl
theorem llLit226 : Statement .llLit226 := rfl
theorem llLit227 : Statement .llLit227 := rfl
theorem llLit228 : Statement .llLit228 := rfl
theorem llLit229 : Statement .llLit229 := rfl
theorem llLit230 : Statement .llLit230 := rfl
theorem llLit231 : Statement .llLit231 := rfl
theorem llLit232 : Statement .llLit232 := rfl
theorem llLit233 : Statement .llLit233 := rfl
theorem llLit234 : Statement .llLit234 := rfl
theorem llLit235 : Statement .llLit235 := rfl
theorem llLit236 : Statement .llLit236 := rfl
theorem llLit237 : Statement .llLit237 := rfl
theorem llLit238 : Statement .llLit238 := rfl
theorem llLit239 : Statement .llLit239 := rfl
theorem llLit240 : Statement .llLit240 := rfl
theorem llLit241 : Statement .llLit241 := rfl
theorem llLit242 : Statement .llLit242 := rfl
theorem llLit243 : Statement .llLit243 := rfl
theorem llLit244 : Statement .llLit244 := rfl
theorem llLit245 : Statement .llLit245 := rfl
theorem llLit246 : Statement .llLit246 := rfl
theorem llLit247 : Statement .llLit247 := rfl
theorem llLit248 : Statement .llLit248 := rfl
theorem llLit249 : Statement .llLit249 := rfl
theorem llLit250 : Statement .llLit250 := rfl
theorem llLit251 : Statement .llLit251 := rfl
theorem llLit252 : Statement .llLit252 := rfl
theorem llLit253 : Statement .llLit253 := rfl
theorem llLit254 : Statement .llLit254 := rfl
theorem llLit255 : Statement .llLit255 := rfl
theorem llEob : Statement .llEob := rfl
theorem llLen257 : Statement .llLen257 := rfl
theorem llLen258 : Statement .llLen258 := rfl
theorem llLen259 : Statement .llLen259 := rfl
theorem llLen260 : Statement .llLen260 := rfl
theorem llLen261 : Statement .llLen261 := rfl
theorem llLen262 : Statement .llLen262 := rfl
theorem llLen263 : Statement .llLen263 := rfl
theorem llLen264 : Statement .llLen264 := rfl
theorem llLen265 : Statement .llLen265 := rfl
theorem llLen266 : Statement .llLen266 := rfl
theorem llLen267 : Statement .llLen267 := rfl
theorem llLen268 : Statement .llLen268 := rfl
theorem llLen269 : Statement .llLen269 := rfl
theorem llLen270 : Statement .llLen270 := rfl
theorem llLen271 : Statement .llLen271 := rfl
theorem llLen272 : Statement .llLen272 := rfl
theorem llLen273 : Statement .llLen273 := rfl
theorem llLen274 : Statement .llLen274 := rfl
theorem llLen275 : Statement .llLen275 := rfl
theorem llLen276 : Statement .llLen276 := rfl
theorem llLen277 : Statement .llLen277 := rfl
theorem llLen278 : Statement .llLen278 := rfl
theorem llLen279 : Statement .llLen279 := rfl
theorem llLen280 : Statement .llLen280 := rfl
theorem llLen281 : Statement .llLen281 := rfl
theorem llLen282 : Statement .llLen282 := rfl
theorem llLen283 : Statement .llLen283 := rfl
theorem llLen284 : Statement .llLen284 := rfl
theorem llLen285 : Statement .llLen285 := rfl
theorem llInvalid286 : Statement .llInvalid286 := rfl
theorem llInvalid287 : Statement .llInvalid287 := rfl

end Sys2Proof.Laws.WordWidth
end

