-- ==== Sys2Proof/Tests/Slice0.lean ====
section
/-! SUPPORT. Tests/Slice0.lean: the model's own tests. Expected results come from the spec: the rules' examples and
the vectors of 95_test_vectors.md, whose id each test names. The last part gives, for every obligation with
hypotheses, concrete states that meet them. -/

namespace Sys2Proof.Tests

open Sys2Proof Sys2Proof.Machine

-- one test after another: each would start a thread of its own
set_option Elab.async false

/-! ### Helpers -/

/-- The next state of an outcome. -/
def after (o : Host.Outcome State Fault Refusal) : State :=
  match o with
  | .next t => t
  | .fault _ => State.reset
  | .refused _ => State.reset

/-- The outcome is a next state that has not faulted. -/
def runs (o : Host.Outcome State Fault Refusal) : Bool :=
  match o with
  | .next t => t.fsm != .fault
  | .fault _ => false
  | .refused _ => false

/-- The outcome is a next state. -/
def goesOn (o : Host.Outcome State Fault Refusal) : Bool :=
  match o with
  | .next _ => true
  | .fault _ => false
  | .refused _ => false

/-- The outcome is the fault with this cause. -/
def raises (c : Cause) (o : Host.Outcome State Fault Refusal) : Bool :=
  match o with
  | .next t => t.fsm == .fault && t.err == c
  | .fault _ => false
  | .refused _ => false

/-- The word a fetch answers. -/
def word (r : EStateM.Result Trap State ElementWord) : Option ElementWord :=
  match r with
  | .ok w _ => some w
  | .error _ _ => none

theorem fetch_of_word {s : State} {w : ElementWord} (h : word (fetch s) = some w) : ∃ t, fetch s = .ok w t := by
  unfold word at h
  split at h
  · next w' t hf => exact ⟨t, by rw [hf]; cases h; rfl⟩
  · cases h

theorem next_of_goesOn {o : Host.Outcome State Fault Refusal} (h : goesOn o = true) : o = .next (after o) := by
  cases o <;> first | rfl | cases h

theorem raises_of {c : Cause} {o : Host.Outcome State Fault Refusal} (h : raises c o = true) : Raises o c := by
  unfold raises at h
  split at h
  · next t => exact ⟨t, rfl, by simpa using h⟩
  all_goals cases h

/-- A launched machine with the cursor moved. -/
def at_ (bytes : List Byte) (cur : Nat) : State := { State.reset.launch bytes with cur := cur }

/-- `IN = B4 3A FF`, the input of T1 to T17. -/
def b4 (cur : Nat) : State := at_ [0xB4, 0x3A, 0xFF] cur

/-- A machine in DISPATCHING that waits for an element. -/
def wait (p : Phase) (bytes : List Byte) (cur : Nat) : State := (at_ bytes cur).atPhase p

/-! ### WellFormed -/

/-- 20_memory.md R71: `n` of RB.BYTES is `LEN`, at most 65535. -/
theorem test_illFormed_rbBytes : (Instr.rbBytes 65536).wellFormed = false := by decide
theorem test_wellFormed_rbBytes : (Instr.rbBytes 65535).wellFormed = true := by decide
/-- The decoder refuses the ill-formed count by name. -/
theorem test_decode_refuses_rbBytes : decode ⟨.op, 3 + 256 * 65536⟩ = .error .byteCountTooLarge := by decide

/-! ### Decoding, words written out from 30_encoding.md R91, R94, R96, R97, R99, R110 -/

theorem test_decode_stored : decode ⟨.bh, 0b000⟩ = .ok (.blkStored false) := by decide
theorem test_decode_storedFinal : decode ⟨.bh, 0b001⟩ = .ok (.blkStored true) := by decide
theorem test_decode_fixed : decode ⟨.bh, 0b010⟩ = .ok (.blkFixed false) := by decide
/-- R262's example: `IN[0] = 0x4B`, low three bits 0b011. -/
theorem test_decode_fixedFinal : decode ⟨.bh, 0x4B % 8⟩ = .ok (.blkFixed true) := by decide
theorem test_decode_dynamic : decode ⟨.bh, 0b100⟩ = .ok (.blkDynamic false) := by decide
theorem test_decode_dynamicFinal : decode ⟨.bh, 0b101⟩ = .ok (.blkDynamic true) := by decide
/-- R264's example: `IN = 06`. -/
theorem test_decode_reserved : decode ⟨.bh, 0b110⟩ = .ok (.blkReserved false) := by decide
theorem test_decode_reservedFinal : decode ⟨.bh, 0b111⟩ = .ok (.blkReserved true) := by decide
theorem test_decode_noHeader : decode ⟨.bh, 0b1000⟩ = .error .noSuchHeader := by decide
theorem test_decode_storedBody : decode ⟨.st, 0⟩ = .ok .stHdr := by decide
theorem test_decode_fields : decode ⟨.dh, 0⟩ = .ok .dhHlit ∧ decode ⟨.dh, 5⟩ = .ok .dhHdist ∧
    decode ⟨.dh, 10⟩ = .ok .dhHclen ∧ decode ⟨.dh, 14⟩ = .error .noSuchField := by decide
theorem test_decode_clcl : decode ⟨.cll, 0⟩ = .ok .dhClcl := by decide
theorem test_decode_codeLengths : decode ⟨.cl, 0⟩ = .ok .clLen0 ∧ decode ⟨.cl, 15⟩ = .ok .clLen15 ∧
    decode ⟨.cl, 16⟩ = .ok .clRep16 ∧ decode ⟨.cl, 17⟩ = .ok .clZero17 ∧
    decode ⟨.cl, 18⟩ = .ok .clZero18 ∧ decode ⟨.cl, 19⟩ = .error .noSuchCodeLengthSymbol := by decide
theorem test_decode_literals : decode ⟨.ll, 0⟩ = .ok .llLit0 ∧ decode ⟨.ll, 0x61⟩ = .ok .llLit97 ∧
    decode ⟨.ll, 255⟩ = .ok .llLit255 := by decide
theorem test_decode_lengths : decode ⟨.ll, 256⟩ = .ok .llEob ∧ decode ⟨.ll, 257⟩ = .ok .llLen257 ∧
    decode ⟨.ll, 264⟩ = .ok .llLen264 ∧ decode ⟨.ll, 265⟩ = .ok .llLen265 ∧
    decode ⟨.ll, 284⟩ = .ok .llLen284 ∧ decode ⟨.ll, 285⟩ = .ok .llLen285 := by decide
theorem test_decode_invalid : decode ⟨.ll, 286⟩ = .ok .llInvalid286 ∧ decode ⟨.ll, 287⟩ = .ok .llInvalid287 ∧
    decode ⟨.ll, 288⟩ = .error .noSuchLiteralLengthSymbol := by decide
theorem test_decode_distances : decode ⟨.d, 0⟩ = .ok .d0 ∧ decode ⟨.d, 3⟩ = .ok .d3 ∧
    decode ⟨.d, 4⟩ = .ok .d4 ∧ decode ⟨.d, 29⟩ = .ok .d29 ∧ decode ⟨.d, 31⟩ = .ok .d31 ∧
    decode ⟨.d, 32⟩ = .error .noSuchDistanceCode := by decide
theorem test_decode_operations : decode ⟨.op, 0⟩ = .ok .rbBit ∧ decode ⟨.op, 1 + 256 * 5⟩ = .ok (.rbMsb 5) ∧
    decode ⟨.op, 2 + 256 * 16⟩ = .ok (.rbLsb 16) ∧ decode ⟨.op, 3 + 256 * 7⟩ = .ok (.rbBytes 7) ∧
    decode ⟨.op, 4⟩ = .ok .rbAlign ∧ decode ⟨.op, 5⟩ = .ok (.htBuild .clt) ∧
    decode ⟨.op, 6 + 256⟩ = .ok (.htDecode .llt) ∧ decode ⟨.op, 7 + 256⟩ = .ok (.clseq .d) ∧
    decode ⟨.op, 8⟩ = .ok .expand ∧ decode ⟨.op, 9⟩ = .ok .copy ∧ decode ⟨.op, 11⟩ = .ok .blkHdr ∧
    decode ⟨.op, 12⟩ = .ok .result ∧ decode ⟨.op, 13⟩ = .error .noSuchOperation := by decide
theorem test_decode_launch : decode ⟨.op, 10 + 256 * (0x62 + 256 * 0x01)⟩ = .ok (.launch [0x61, 0x00]) := by decide
theorem test_tableWord : decodeTableWord 16 256 = some .llEob ∧ decodeTableWord 8 2 = some (.blkFixed false) ∧
    decodeTableWord 8 12 = some .result ∧ decodeTableWord 8 18 = some .clZero18 ∧
    decodeTableWord 8 31 = some .d31 ∧ decodeTableWord 0 0 = some .stHdr := by decide
/-- A table's number laid at the fetch is fetched and run: LL.LIT97 appends its byte. -/
theorem test_withFetchWord :
    word (fetch (State.reset.withFetchWord 16 0x61)) = some ⟨.ll, 0x61⟩ ∧
    (after (step (State.reset.withFetchWord 16 0x61))).outBytes = [0x61] := by decide +kernel

/-! ### Memory -/

theorem test_write_zero_unlists : Memory.write [(3, 5)] 3 0 = [] := by
  decide +kernel
theorem test_write_sorted : Memory.write [(1, 7), (4, 9)] 2 8 = [(1, 7), (2, 8), (4, 9)] := by
  decide +kernel

/-! ### The BitReader (T1 to T18) -/

theorem test_rbBit_T1 : (after (exec .rbBit (b4 0))).opResult = .value 0 ∧ (after (exec .rbBit (b4 0))).cur = 1 := by
  decide +kernel
theorem test_rbBit_T14 : raises .streamTruncated (exec .rbBit (b4 24)) = true := by
  decide +kernel
theorem test_rbMsb_T3 : (after (exec (.rbMsb 3) (b4 4))).opResult = .value 6 ∧
    (after (exec (.rbMsb 3) (b4 4))).cur = 7 := by
  decide +kernel
theorem test_rbMsb_T11 : (after (exec (.rbMsb 16) (b4 0))).opResult = .value 0x2D5C := by
  decide +kernel
theorem test_rbLsb_T10 : (after (exec (.rbLsb 16) (b4 0))).opResult = .value 0x3AB4 := by
  decide +kernel
theorem test_rbLsb_T13 : raises .streamTruncated (exec (.rbLsb 5) (b4 20)) = true := by
  decide +kernel
theorem test_rbBytes_T9 : (after (exec (.rbBytes 1) (b4 16))).opResult = .bytes [0xFF] ∧
    (after (exec (.rbBytes 1) (b4 16))).cur = 24 := by
  decide +kernel
theorem test_rbBytes_T16 : raises .streamTruncated (exec (.rbBytes 2) (b4 16)) = true := by
  decide +kernel
theorem test_rbAlign_T7 : (after (exec .rbAlign (b4 13))).cur = 16 := by
  decide +kernel
theorem test_rbAlign_T8 : (after (exec .rbAlign (b4 16))).cur = 16 := by
  decide +kernel

/-! ### Huffman trees (the small examples of 41_huffman.md) -/

/-- The table `[2, 1, 0, 2]`, its stream `s"0 10 11"` = 0b11010. -/
def small (cur : Nat) : State :=
  { at_ [0b11010] cur with dcl := [2, 1, 0, 2] ++ List.replicate 28 0, hdist := 4 }

/-- Its tree: root(left = leaf 1, right = node(left = leaf 0, right = leaf 3)). -/
def smallTree : Tree := .node (Tree.leaf 1) (.node (Tree.leaf 0) (Tree.leaf 3) none) none

theorem test_build_small : (after (exec (.htBuild .dt) (small 0))).dt = smallTree := by
  decide +kernel
/-- Three symbols of length 1 (R195). -/
theorem test_build_over : raises .malformedHuffmanTable
    (exec (.htBuild .dt) { small 0 with dcl := [1, 1, 1, 0] ++ List.replicate 28 0 }) = true := by
  decide +kernel
theorem test_decode_small : (after (exec (.htDecode .dt) { small 1 with dt := smallTree })).opResult = .value 0 ∧
    (after (exec (.htDecode .dt) { small 1 with dt := smallTree })).cur = 3 := by
  decide +kernel
/-- One code, `0b0`; the stream `s"1"` (the example after R160). -/
theorem test_decode_missingChild : raises .malformedHuffmanTable
    (exec (.htDecode .dt) { at_ [1] 0 with dt := oneCodeTree 0 }) = true := by
  decide +kernel

/-! ### Blocks -/

/-- R170's example `01 03 00 FC FF 61 62 63`. -/
def storedExample : List Byte := [0x01, 0x03, 0x00, 0xFC, 0xFF, 0x61, 0x62, 0x63]

theorem test_blkStored : (after (exec (.blkStored true) (at_ storedExample 3))).bfinal = true ∧
    (after (exec (.blkStored true) (at_ storedExample 3))).fsm = .dispatching := by
  decide +kernel
theorem test_stHdr : (after (exec .stHdr (wait .storedBody storedExample 3))).outBytes = [0x61, 0x62, 0x63] ∧
    (after (exec .stHdr (wait .storedBody storedExample 3))).cur = 64 := by
  decide +kernel
/-- S3. -/
theorem test_stHdr_S3 : raises .storedBlockLengthMismatch
    (exec .stHdr (wait .storedBody [0x01, 0x03, 0x00, 0xFC, 0xFE, 0x61, 0x62, 0x63] 3)) = true := by
  decide +kernel
/-- S1: symbol 256 is `0000000`, symbol 0 is `00110000`, and R101: symbol 144 is `110010000`. -/
theorem test_blkFixed_S1 :
    (after (exec (.blkFixed true) (at_ [] 0))).llt.follow 7 0b0000000 = Tree.leaf 256 ∧
    (after (exec (.blkFixed true) (at_ [] 0))).llt.follow 8 0b00110000 = Tree.leaf 0 ∧
    (after (exec (.blkFixed true) (at_ [] 0))).llt.follow 9 0b110010000 = Tree.leaf 144 := by
  decide +kernel
theorem test_blkFixed_registers :
    (after (exec (.blkFixed true) (at_ [] 0))).blCount.getD 8 0 = 152 ∧
    (after (exec (.blkFixed true) (at_ [] 0))).dtPresent = false ∧
    (after (exec (.blkFixed true) (at_ [] 0))).phase = .expand := by
  decide +kernel
theorem test_blkDynamic : (after (exec (.blkDynamic true) (at_ [5] 3))).btype = 2 := by
  decide +kernel
/-- S7. -/
theorem test_blkReserved_S7 : raises .reservedBlockType (step (at_ [0x07] 0)) = true := by
  decide +kernel
/-- R170's example in one piece. -/
theorem test_blkHdr : (after (exec .blkHdr (at_ storedExample 0))).outBytes = [0x61, 0x62, 0x63] ∧
    (after (exec .blkHdr (at_ storedExample 0))).fsm = .done ∧
    (after (exec .blkHdr (at_ storedExample 0))).cur = 64 := by
  decide +kernel
/-- S4: eleven copies of `b`, CUR 30. -/
theorem test_blkHdr_S4 : (after (exec .blkHdr (at_ [0x4B, 0x42, 0x00, 0x00] 0))).outBytes =
      List.replicate 11 0x62 ∧
    (after (exec .blkHdr (at_ [0x4B, 0x42, 0x00, 0x00] 0))).cur = 30 := by
  decide +kernel

/-! ### The dynamic header (44_dynamic.md) -/

/-- R191's example: raw `s"10000"`. -/
theorem test_dhHlit : (after (exec .dhHlit (wait .hlit [0b00001] 0))).hlit = 258 := by
  decide +kernel
/-- R192's example: raw `s"11000"`. -/
theorem test_dhHdist : (after (exec .dhHdist (wait .hdist [0b00011] 0))).hdist = 4 := by
  decide +kernel
/-- R193's example: raw `s"0111"`. -/
theorem test_dhHclen : (after (exec .dhHclen (wait .hclen [0b1110] 0))).hclen = 18 := by
  decide +kernel
/-- R194's example: `0 0 1 0 … 0 2 0 2` in 18 fields. -/
theorem test_dhClcl : (after (exec .dhClcl
      { wait .clcl [0x40, 0, 0, 0, 0, 0x40, 0x10] 0 with hclen := 18 })).clcl =
    [0, 2, 2, 0, 0, 0, 0, 0, 0, 0, 0, 0, 0, 0, 0, 0, 0, 0, 1] := by
  decide +kernel

/-- The reader of code lengths inside the distance sequence of five lengths, three of them emitted. -/
def mid (bytes : List Byte) : State :=
  { wait .codeLengths bytes 0 with
    seqTable := .d, hdist := 32, cli := 3, dcl := [1, 0, 3] ++ List.replicate 29 7 }

theorem test_clLen3 : (after (exec .clLen3 (mid []))).dcl.take 5 = [1, 0, 3, 3, 7] ∧
    (after (exec .clLen3 (mid []))).cli = 4 := by
  decide +kernel
/-- S5: extra bits 0, three more 3s. -/
theorem test_clRep16 : (after (exec .clRep16 (mid [0]))).dcl.take 7 = [1, 0, 3, 3, 3, 3, 7] := by
  decide +kernel
/-- A first symbol 16 faults before its extra bits are read (R198). -/
theorem test_clRep16_first : raises .codeLengthRepeatWithoutPrevious
    (exec .clRep16 { mid [] with cli := 0 }) = true := by
  decide +kernel
/-- R199's example: extra `s"111"` emits 10 zeros. -/
theorem test_clZero17 : (after (exec .clZero17 (mid [7]))).cli = 13 ∧
    (after (exec .clZero17 (mid [7]))).dcl.getD 12 9 = 0 := by
  decide +kernel
/-- R200's example: extra `s"0110101"` is 86, 97 zeros, too many here (R202). -/
theorem test_clZero18 : raises .codeLengthRunOverflow (exec .clZero18 (mid [86])) = true := by
  decide +kernel
theorem test_clZero18_rep : (after (exec .clZero18
    { mid [86] with seqTable := .ll, hlit := 257, cli := 0 })).rep = 97 := by
  decide +kernel
/-- CLSEQ of the sequence `CL 1` of P2's distance table: one length. -/
theorem test_clseq : (after (exec (.clseq .d) { wait .codeLengths [0] 0 with
      clt := oneCodeTree 1, hdist := 1 })).dcl.take 2 = [1, 0] := by
  decide +kernel

/-! ### The expander (45_lz77.md) -/

theorem test_literal : (after (exec .llLit97 (wait .expand [] 0))).outBytes = [0x61] := by
  decide +kernel
theorem test_literal255 : (after (exec .llLit255 (wait .expand [] 0))).outBytes = [0xFF] := by
  decide +kernel
theorem test_eob : (after (exec .llEob (wait .expand [] 0))).phase = .returned := by
  decide +kernel
/-- R223's example. -/
theorem test_len264 : (after (exec .llLen264 (wait .expand [] 0))).length = 10 := by
  decide +kernel
/-- R224's examples. -/
theorem test_len265 : (after (exec .llLen265 (wait .expand [1] 0))).length = 12 := by
  decide +kernel
theorem test_len284 : (after (exec .llLen284 (wait .expand [31] 0))).length = 258 := by
  decide +kernel
theorem test_len285 : (after (exec .llLen285 (wait .expand [] 0))).length = 258 := by
  decide +kernel
theorem test_invalid286 : raises .invalidSymbol (exec .llInvalid286 (wait .expand [] 0)) = true := by
  decide +kernel
theorem test_invalid287 : raises .invalidSymbol (exec .llInvalid287 (wait .expand [] 0)) = true := by
  decide +kernel

/-- A match of three bytes that waits for its distance, after the bytes `61 62`. -/
def pair (bytes : List Byte) : State :=
  { wait .distance bytes 0 with length := 3, out := Memory.ofBytes [0x61, 0x62], outLen := 2 }

theorem test_d0 : (after (exec .d0 (pair []))).outBytes = [0x61, 0x62, 0x62, 0x62, 0x62] := by
  decide +kernel
theorem test_d1 : (after (exec .d1 (pair []))).outBytes = [0x61, 0x62, 0x61, 0x62, 0x61] := by
  decide +kernel
theorem test_d2 : raises .distanceTooFar (exec .d2 (pair [])) = true := by
  decide +kernel
/-- R230's example: code 5, extra `s"0"`, distance 7. -/
theorem test_d5 : (after (exec .d5 { pair [0] with outLen := 7 })).distance = 7 := by
  decide +kernel
/-- R237: the code is tested before any extra bit is needed. -/
theorem test_d30 : raises .invalidSymbol (exec .d30 (pair [])) = true := by
  decide +kernel
theorem test_d31 : raises .invalidSymbol (exec .d31 (pair [])) = true := by
  decide +kernel
theorem test_copy : (after (exec .copy { pair [] with distance := 2 })).outBytes =
    [0x61, 0x62, 0x61, 0x62, 0x61] := by
  decide +kernel
/-- EXPAND on the one code of an end-of-block. -/
theorem test_expand : (after (exec .expand { wait .expand [0] 0 with llt := oneCodeTree 256 })).cur = 1 := by
  decide +kernel

/-! ### The host -/

theorem test_launch : (after (exec (.launch [0x4B, 0x00]) (b4 5))).cur = 0 ∧
    (after (exec (.launch [0x4B, 0x00]) (b4 5))).inLen = 2 := by
  decide +kernel
theorem test_result : (after (exec .result { pair [] with fsm := .done })).result = some (.ok [0x61, 0x62]) := by
  decide +kernel
theorem test_result_err : (after (exec .result ((pair []).takeFault .distanceTooFar))).result =
    some (.err .distanceTooFar) := by
  decide +kernel
/-- The numbers of 10_state.md R24 and 60_exceptions.md R281. -/
theorem test_numbers : [Fsm.readingHeader, .dispatching, .done, .fault].map Fsm.number = [0, 1, 2, 3] ∧
    [Cause.none, .streamTruncated, .reservedBlockType, .storedBlockLengthMismatch, .invalidSymbol,
      .malformedHuffmanTable, .codeLengthRepeatWithoutPrevious, .codeLengthRunOverflow,
      .distanceTooFar].map Cause.number = [0, 1, 2, 3, 4, 5, 6, 7, 8] := by
  decide +kernel

/-! ### Witnesses: states that meet the hypotheses of the obligations, clause by clause

`witness_<Obligation>` names the obligation whose hypotheses it meets. -/

theorem hasBits_of {s : State} {n : Nat} (h : s.cur + n ≤ 8 * s.inLen) : s.hasBits n := h
theorem not_hasBits_of {s : State} {n : Nat} (h : ¬ s.cur + n ≤ 8 * s.inLen) : ¬ s.hasBits n := h
theorem codeAhead_of {s : State} {tree : Tree} {l sym : Nat}
    (h : s.cur + l ≤ 8 * s.inLen ∧ tree.follow l (s.input.msbField s.cur l) = Tree.leaf sym) :
    s.codeAhead tree l sym := h
theorem acceptable_of {lengths : List Nat} (h : (∀ l ∈ lengths, l ≤ 15) ∧
    ((lengths.filter fun l => l ≠ 0).map fun l => 2 ^ (15 - l)).sum ≤ 2 ^ 15) : acceptable lengths := h

/-- The conditions of Inv for a state that has not faulted, each decidable. -/
abbrev InOrder (s : State) : Prop :=
  (s.port = none ∧ s.err = .none ∧ s.fsm ≠ .fault) ∧
  (s.phase = .idle ↔ s.fsm ≠ .dispatching) ∧ (s.phase ≠ .buildClt ∧ s.phase ≠ .returned) ∧
  (s.input.wf = true ∧ s.input.within s.inLen = true) ∧ (s.out.wf = true ∧ s.out.within s.outLen = true) ∧
  s.cur ≤ 8 * s.inLen ∧
  (s.clcl.length = clSize ∧ s.llcl.length = llSize ∧ s.dcl.length = dSize ∧
    s.blCount.length = maxBits + 1 ∧ s.nextCode.length = maxBits + 1) ∧
  ((∀ l ∈ s.clcl, l ≤ 7) ∧ (∀ l ∈ s.llcl, l ≤ maxBits) ∧ (∀ l ∈ s.dcl, l ≤ maxBits)) ∧
  (s.btype ≤ 3 ∧ s.hlit ≤ llSize ∧ s.hdist ≤ dSize ∧ s.hclen ≤ clSize) ∧
  (s.phase = .hdist ∨ s.phase = .hclen ∨ s.phase = .clcl ∨ s.phase = .codeLengths → 257 ≤ s.hlit) ∧
  (s.phase = .hclen ∨ s.phase = .clcl ∨ s.phase = .codeLengths → 1 ≤ s.hdist) ∧
  (s.phase = .clcl → 4 ≤ s.hclen) ∧
  (s.phase = .codeLengths → s.clt.built clSize = true ∧ s.cli < s.seqLen s.seqTable) ∧
  (s.phase = .expand ∨ s.phase = .distance →
    s.llt.built llSize = true ∧ (s.dtPresent = true → s.dt.built dSize = true)) ∧
  (s.phase = .distance → 3 ≤ s.length ∧ s.length ≤ 258) ∧
  (s.fsm ≠ .dispatching → s.clt = .none ∧ s.llt = .none ∧ s.dt = .none)

theorem inv_of {s : State} (h : InOrder s) : s.Inv := by
  obtain ⟨⟨h1, h2, h3⟩, h4, h5, h6, h7, h8, h9, h10, h11, h12, h13, h14, h15, h16, h17, h18⟩ := h
  exact ⟨h1, by simp [h2, h3], fun _ => ⟨h4, h5, h6, h7, h8, h9, h10, h11, h12, h13, h14, h15, h16, h17, h18⟩⟩

/-- A run at its first header: `IN = 03 00` (T37). -/
def reading : State := at_ [0x03, 0x00] 0
/-- EXPAND with an end-of-block ahead. -/
def expanding : State := { wait .expand [0] 0 with llt := oneCodeTree 256 }
/-- EXPAND with the literal `61` ahead. -/
def literalAhead : State := { wait .expand [0] 0 with llt := oneCodeTree 0x61 }
/-- CLSEQ at the start of a distance sequence of one length, symbol 1 ahead. -/
def readingLengths : State :=
  { wait .codeLengths [0] 0 with clt := oneCodeTree 1, hlit := 257, hdist := 1, seqTable := .d, cli := 0 }
/-- A fixed block that waits for its raw distance field, the last five bits of `IN`. -/
def rawDistance : State := { pair [0] with cur := 3, llt := oneCodeTree 256 }
/-- A run that is over. -/
def finished : State := { at_ [] 0 with fsm := .done }
/-- A run that has faulted. -/
def faulted : State := (at_ [] 0).takeFault .streamTruncated

theorem reading_inv : reading.Inv := inv_of (by decide +kernel)
theorem expanding_inv : expanding.Inv := inv_of (by decide +kernel)
theorem readingLengths_inv : readingLengths.Inv := inv_of (by decide +kernel)
theorem rawDistance_inv : rawDistance.Inv := inv_of (by decide +kernel)
theorem finished_inv : finished.Inv := inv_of (by decide +kernel)
theorem faulted_inv : faulted.Inv := ⟨rfl, by decide, fun h => absurd rfl h⟩

theorem witness_LaunchStartsAFreshRun : faulted.cfg = reading.cfg := rfl
theorem witness_ResultHandsOverTheOutcome : finished.fsm = .done ∧ faulted.fsm = .fault ∧
    reading.fsm ≠ .done ∧ reading.fsm ≠ .fault := by decide
theorem witness_OnlyLaunchLeavesAFinishedRun : finished.fsm = .done ∧ finished.port = none ∧
    faulted.fsm = .fault ∧ faulted.port = none := by decide
theorem witness_OnlyLaunchLeavesAFinishedRun_launch : ∃ t,
    ({ faulted with port := some 10 } : State).fsm = .fault ∧ step { faulted with port := some 10 } = .next t ∧
    decode ⟨.op, 10⟩ = .ok (.launch []) := ⟨_, rfl, next_of_goesOn (by decide +kernel), by decide⟩
theorem witness_StepRunsTheFetchedInstruction : ∃ t, fetch reading = .ok ⟨.bh, 3⟩ t ∧
    decode ⟨.bh, 3⟩ = .ok (.blkFixed true) :=
  have ⟨t, h⟩ := fetch_of_word (s := reading) (w := ⟨.bh, 3⟩) (by decide +kernel)
  ⟨t, h, by decide⟩
/-- READING_HEADER with exactly three bits left. -/
theorem witness_FetchFollowsTheDecodeLoop_header : (at_ [0] 5).port = none ∧ (at_ [0] 5).fsm = .readingHeader ∧
    (at_ [0] 5).hasBits 3 := ⟨rfl, rfl, hasBits_of (by decide)⟩
theorem witness_FetchFollowsTheDecodeLoop_groups : ∀ p ∈ [Phase.storedBody, .hlit, .hdist, .hclen, .clcl],
    (wait p [] 0).port = none ∧ (wait p [] 0).fsm = .dispatching ∧ (wait p [] 0).phase = p := by decide
theorem witness_FetchFollowsTheDecodeLoop_codeLength : readingLengths.phase = .codeLengths ∧
    readingLengths.codeAhead readingLengths.clt 1 1 := ⟨rfl, codeAhead_of (by decide +kernel)⟩
theorem witness_FetchFollowsTheDecodeLoop_symbol : expanding.phase = .expand ∧
    expanding.codeAhead expanding.llt 1 256 := ⟨rfl, codeAhead_of (by decide +kernel)⟩
theorem witness_FetchFollowsTheDecodeLoop_distance :
    ({ pair [0] with dtPresent := true, dt := oneCodeTree 29 } : State).phase = .distance ∧
    State.codeAhead { pair [0] with dtPresent := true, dt := oneCodeTree 29 } (oneCodeTree 29) 1 29 :=
  ⟨rfl, codeAhead_of (by decide +kernel)⟩
theorem witness_FetchFollowsTheDecodeLoop_raw : rawDistance.phase = .distance ∧ rawDistance.dtPresent = false ∧
    rawDistance.hasBits 5 := ⟨rfl, rfl, hasBits_of (by decide)⟩
/-- READING_HEADER with two bits left, and with none. -/
theorem witness_FetchFollowsTheDecodeLoop_shortHeader : (at_ [0] 6).port = none ∧
    (at_ [0] 6).fsm = .readingHeader ∧ ¬ (at_ [0] 6).hasBits 3 ∧ ¬ (at_ [0] 8).hasBits 3 :=
  ⟨rfl, rfl, not_hasBits_of (by decide), not_hasBits_of (by decide)⟩
/-- The raw field with four bits left. -/
theorem witness_FetchFollowsTheDecodeLoop_shortRaw :
    ({ rawDistance with cur := 4 } : State).phase = .distance ∧ ¬ State.hasBits { rawDistance with cur := 4 } 5 :=
  ⟨rfl, not_hasBits_of (by decide)⟩
/-- The missing branch of each one-code tree, and a code with no bit left. -/
theorem witness_FetchFollowsTheDecodeLoop_codes :
    Raises (exec (.htDecode .clt) { readingLengths with input := Memory.ofBytes [1] }) .malformedHuffmanTable ∧
    Raises (exec (.htDecode .llt) { expanding with cur := 8 * expanding.inLen }) .streamTruncated ∧
    Raises (exec (.htDecode .dt) { pair [1] with dtPresent := true, dt := oneCodeTree 29 })
      .malformedHuffmanTable := ⟨raises_of (by decide +kernel), raises_of (by decide +kernel), raises_of (by decide +kernel)⟩
theorem witness_FetchFollowsTheDecodeLoop_over : finished.fsm = .done ∧ faulted.fsm = .fault := by decide
theorem witness_PortOperationIsFetchedFirst :
    (∃ s : State, s.port = some 9 ∧ s.fsm = .dispatching) ∧ (∃ s : State, s.port = some 12 ∧ s.fsm = .fault) ∧
    ∃ s : State, s.port = some 11 ∧ s.fsm = .done ∧ 11 % 256 ≠ 10 ∧ 11 % 256 ≠ 12 :=
  ⟨⟨{ expanding with port := some 9 }, rfl, rfl⟩, ⟨{ faulted with port := some 12 }, rfl, rfl⟩,
    ⟨{ finished with port := some 11 }, rfl, rfl, by decide, by decide⟩⟩
theorem witness_SymbolsOutsideTheirAlphabetFault_286 : ∃ s t, fetch s = .ok ⟨.ll, 286⟩ t :=
  ⟨{ expanding with llt := oneCodeTree 286 }, fetch_of_word (by decide +kernel)⟩
theorem witness_SymbolsOutsideTheirAlphabetFault_288 : ∃ s t, fetch s = .ok ⟨.ll, 288⟩ t :=
  ⟨{ expanding with llt := oneCodeTree 288 }, fetch_of_word (by decide +kernel)⟩
theorem witness_SymbolsOutsideTheirAlphabetFault_30 : ∃ s t, fetch s = .ok ⟨.d, 30⟩ t :=
  ⟨{ pair [0] with dtPresent := true, dt := oneCodeTree 30 }, fetch_of_word (by decide +kernel)⟩
theorem witness_SymbolsOutsideTheirAlphabetFault_32 : ∃ s t, fetch s = .ok ⟨.d, 32⟩ t :=
  ⟨{ pair [0] with dtPresent := true, dt := oneCodeTree 32 }, fetch_of_word (by decide +kernel)⟩

/-- The last bit, and none. -/
theorem witness_RbBitReadsTheCursorBit : (b4 23).cur < 8 * (b4 23).inLen ∧ 8 * (b4 24).inLen ≤ (b4 24).cur := by
  decide
/-- Exactly `n` bits left, one too few, and `n = 0` at the end. -/
theorem witness_RbLsbAssemblesFromBitZero : (b4 8).cur + 16 ≤ 8 * (b4 8).inLen ∧
    8 * (b4 8).inLen < (b4 8).cur + 17 ∧ (b4 24).cur + 0 ≤ 8 * (b4 24).inLen := by decide
theorem witness_RbMsbAssemblesFromTheTop : (b4 19).cur + 5 ≤ 8 * (b4 19).inLen ∧
    8 * (b4 19).inLen < (b4 19).cur + 6 ∧ (b4 24).cur ≤ 8 * (b4 24).inLen := by decide
theorem witness_RbBytesTakesWholeBytes : ((b4 16).cur % 8 = 0 ∧ (b4 16).cur / 8 + 1 ≤ (b4 16).inLen) ∧
    ((b4 24).cur % 8 = 0 ∧ (b4 24).cur / 8 + 0 ≤ (b4 24).inLen) ∧
    ((b4 16).cur % 8 = 0 ∧ (b4 16).inLen < (b4 16).cur / 8 + 2) ∧ (b4 17).cur % 8 ≠ 0 := by decide
theorem witness_BitReaderLaws : (b4 8).hasBits 16 ∧ (b4 8).hasBits (5 + 11) ∧ (b4 24).hasBits (0 + 0) ∧
    rbBit (b4 23) = .ok 1 (b4 24) ∧ rbAlign (b4 24) = .ok () (b4 24) :=
  ⟨hasBits_of (by decide), hasBits_of (by decide), hasBits_of (by decide), rfl, rfl⟩

/-- Kraft sum one unit above 1 and exactly 1, and the empty table. -/
theorem witness_BuildFaultsExactlyOnOverSubscribedTables :
    (2 ^ 15 < (((State.lengthsOf { small 0 with dcl := [1, 1, 15] ++ List.replicate 29 0 } .dt).filter
      fun l => l ≠ 0).map fun l => 2 ^ (15 - l)).sum) ∧
    ((((small 0).lengthsOf .dt).filter fun l => l ≠ 0).map fun l => 2 ^ (15 - l)).sum = 2 ^ 15 ∧
    (∀ l ∈ (at_ [] 0).lengthsOf .llt, l = 0) := by decide +kernel
theorem witness_BuildCountsAndNumbersTheCodes : acceptable ((small 0).lengthsOf .dt) ∧
    acceptable ((at_ [] 0).lengthsOf .clt) := ⟨acceptable_of (by decide), acceptable_of (by decide)⟩
/-- A symbol of length 1, 2 and 0, and the path of each coded one. -/
theorem witness_BuiltTreePathsAreTheCanonicalCodes : acceptable ((small 0).lengthsOf .dt) ∧
    ((small 0).lengthsOf .dt).getD 3 0 ≠ 0 ∧ ((small 0).lengthsOf .dt).getD 2 0 = 0 ∧
    smallTree.follow 2 0b11 = .node .none .none (some 3) := ⟨acceptable_of (by decide), by decide, by decide, by decide⟩
theorem witness_DecodeReturnsTheSymbolAhead :
    State.codeAhead { small 3 with dt := smallTree } (State.tree { small 3 with dt := smallTree } .dt) 2 3 :=
  codeAhead_of (by decide)
theorem witness_DecodeConsumesExactlyTheCode : acceptable ((small 1).lengthsOf .dt) ∧
    exec (.htBuild .dt) (small 1) = .next (after (exec (.htBuild .dt) (small 1))) ∧
    ∃ v, htDecode .dt (after (exec (.htBuild .dt) (small 1))) = .ok 0 v := by
  refine ⟨acceptable_of (by decide), next_of_goesOn (by decide), ?_⟩
  have h : (after (exec (.htBuild .dt) (small 1))).dt = smallTree := by decide
  have hc : State.codeAhead (after (exec (.htBuild .dt) (small 1))) smallTree 2 0 := codeAhead_of (by decide +kernel)
  exact ⟨_, by rw [show htDecode .dt _ = Tree.descend _ _ from rfl]; exact (show Tree.descend
    (after (exec (.htBuild .dt) (small 1))).dt _ = _ from by rw [h]; exact Sys2Proof.Machine.Tree.descend_code hc)⟩
/-- An empty root; an inner node with no bit left; a missing left and a missing right child. -/
theorem witness_DecodeFaultsInTheOrderOfTheDescent :
    State.tree { at_ [] 0 with dt := emptyRoot } .dt = .node .none .none none ∧
    (State.hasBits { at_ [] 0 with dt := smallTree } 0 ∧ ¬ State.hasBits { at_ [] 0 with dt := smallTree } (0 + 1) ∧
      smallTree.follow 0 0 = .node (Tree.leaf 1) (.node (Tree.leaf 0) (Tree.leaf 3) none) none) ∧
    (State.hasBits { at_ [0] 0 with dt := .node .none (Tree.leaf 1) none } (0 + 1) ∧ (at_ [0] 0).input.bit 0 = 0) ∧
    (State.hasBits { at_ [1] 0 with dt := oneCodeTree 1 } (0 + 1) ∧ (at_ [1] 0).input.bit 0 = 1) :=
  ⟨rfl, ⟨hasBits_of (by decide), not_hasBits_of (by decide), rfl⟩, ⟨hasBits_of (by decide), by decide⟩,
    ⟨hasBits_of (by decide), by decide⟩⟩

/-- Exactly three bits are left. -/
theorem witness_ReservedBlockTypeFaults : (at_ [0xC0] 5).port = none ∧ (at_ [0xC0] 5).fsm = .readingHeader ∧
    (at_ [0xC0] 5).hasBits 3 ∧ (at_ [0xC0] 5).input.bit 6 = 1 ∧ (at_ [0xC0] 5).input.bit 7 = 1 :=
  ⟨rfl, rfl, hasBits_of (by decide), by decide, by decide⟩
/-- The four clauses: cut inside `NLEN`, a wrong `NLEN`, one data byte missing, and exactly enough (R170, R171;
T46, T47 and T50 for the boundaries). -/
theorem witness_StoredBodyCopiesVerbatim :
    ((wait .storedBody [1, 3, 0, 0xFC] 3).cur ≤ 8 * 4 ∧ (wait .storedBody [1, 3, 0, 0xFC] 3).inLen < 1 + 4) ∧
    (1 + 4 ≤ (wait .storedBody [1, 3, 0, 0xFC, 0xFE] 3).inLen ∧ (3 ^^^ 0xFEFC) ≠ 0xFFFF) ∧
    (1 + 4 ≤ (wait .storedBody [1, 3, 0, 0xFC, 0xFF, 97, 98] 3).inLen ∧ (3 ^^^ 0xFFFC) = 0xFFFF ∧
      (wait .storedBody [1, 3, 0, 0xFC, 0xFF, 97, 98] 3).inLen < 1 + 4 + 3) ∧
    (1 + 4 + 3 ≤ (wait .storedBody storedExample 3).inLen ∧
      ((wait .storedBody storedExample 3).input.read 1).toNat +
        256 * ((wait .storedBody storedExample 3).input.read 2).toNat = 3 ∧
      ((wait .storedBody storedExample 3).input.read 3).toNat +
        256 * ((wait .storedBody storedExample 3).input.read 4).toNat = 0xFFFC) ∧
    1 + 4 + 0 ≤ (wait .storedBody [1, 0, 0, 0xFF, 0xFF] 3).inLen := by decide
theorem witness_BlockEndGoesByBfinal : (wait .returned [] 0).over = false ∧ (wait .returned [] 0).phase = .returned := by
  decide
/-- Exactly five and four bits left, and one too few. -/
theorem witness_DynamicHeaderCountsAreBiased : (wait .hlit [0] 3).hasBits 5 ∧ ¬ (wait .hlit [0] 4).hasBits 5 ∧
    (wait .hclen [0] 4).hasBits 4 ∧ ¬ (wait .hclen [0] 5).hasBits 4 ∧ (wait .hclen [0] 5).cur ≤ 8 * 1 :=
  ⟨hasBits_of (by decide), not_hasBits_of (by decide), hasBits_of (by decide), not_hasBits_of (by decide), by decide⟩
/-- The least and the greatest count with exactly their bits, and one bit too few. -/
theorem witness_CodeLengthLengthsComeInOrder :
    State.hasBits { wait .clcl [0, 0] 4 with hclen := 4 } (3 * 4) ∧
    State.hasBits { wait .clcl [0, 0, 0, 0, 0, 0, 0, 0] 7 with hclen := 19 } (3 * 19) ∧
    ¬ State.hasBits { wait .clcl [0, 0] 5 with hclen := 4 } (3 * 4) ∧ 19 ≤ 19 :=
  ⟨hasBits_of (by decide), hasBits_of (by decide), not_hasBits_of (by decide), Nat.le_refl _⟩
/-- After CLCL (built, and over-subscribed); inside a sequence; at the end of each of the two. -/
theorem witness_DynamicBlockGoesOnBetweenElements :
    ((wait .buildClt [] 0).over = false ∧ overSubscribed (countLengths ((wait .buildClt [] 0).lengthsOf .clt)) = false) ∧
    overSubscribed (countLengths [1, 1, 1]) = true ∧
    (readingLengths.phase = .codeLengths ∧ readingLengths.cli < readingLengths.seqLen readingLengths.seqTable) ∧
    (∃ s : State, s.over = false ∧ s.phase = .codeLengths ∧ s.seqTable = .ll ∧ s.hlit ≤ s.cli ∧
      s.hlit ≤ s.llcl.length) ∧
    ∃ s : State, s.over = false ∧ s.phase = .codeLengths ∧ s.seqTable = .d ∧ s.hdist ≤ s.cli ∧
      overSubscribed (countLengths (s.lengthsOf .llt)) = false ∧
      overSubscribed (countLengths (s.lengthsOf .dt)) = false :=
  ⟨⟨rfl, by decide⟩, by decide, ⟨rfl, by decide⟩,
    ⟨{ readingLengths with seqTable := .ll, hlit := 257, cli := 257 }, by decide +kernel⟩,
    ⟨{ readingLengths with cli := 1 }, by decide +kernel⟩⟩

theorem witness_LiteralLengthsAreEmittedOnce : decode ⟨.cl, 0⟩ = .ok .clLen0 ∧ decode ⟨.cl, 15⟩ = .ok .clLen15 ∧
    (mid []).seqTable = .d ∧ ({ mid [] with seqTable := .ll } : State).seqTable = .ll := by decide
/-- No entry yet; one bit left; a run one too long; a run that ends exactly at the end. -/
theorem witness_Rep16RepeatsThePreviousLength :
    (mid []).seqLen (mid []).seqTable ≤ (mid []).seqSize ∧ ({ mid [] with cli := 0 } : State).cli = 0 ∧
    (0 < (mid []).cli ∧ ¬ State.hasBits { mid [0] with cur := 7 } 2) ∧
    ((mid [0]).hasBits 2 ∧ State.seqLen { mid [0] with hdist := 5 } .d <
      (mid [0]).cli + (3 + (mid [0]).input.lsbField 0 2)) ∧
    (mid [0]).cli + (3 + (mid [0]).input.lsbField 0 2) ≤ State.seqLen { mid [0] with hdist := 6 } .d :=
  ⟨by decide, rfl, ⟨by decide, not_hasBits_of (by decide)⟩, ⟨hasBits_of (by decide), by decide⟩, by decide⟩
theorem witness_ZeroRunsEmitZeros :
    ¬ State.hasBits { mid [0] with cur := 6 } 3 ∧ (mid [0]).hasBits 3 ∧ (mid [0]).hasBits 7 ∧
    ¬ State.hasBits { mid [0] with cur := 2 } 7 ∧
    State.seqLen { mid [0] with hdist := 5 } .d < (mid [0]).cli + (3 + (mid [0]).input.lsbField 0 3) ∧
    (mid [0]).cli + (3 + (mid [0]).input.lsbField 0 3) ≤ State.seqLen { mid [0] with hdist := 6 } .d ∧
    State.seqLen { mid [0] with hdist := 13 } .d < (mid [0]).cli + (11 + (mid [0]).input.lsbField 0 7) ∧
    (mid [0]).cli + (11 + (mid [0]).input.lsbField 0 7) ≤ State.seqLen { mid [0] with hdist := 14 } .d :=
  ⟨not_hasBits_of (by decide), hasBits_of (by decide), hasBits_of (by decide), not_hasBits_of (by decide),
    by decide, by decide, by decide, by decide⟩
theorem witness_ClseqReadsASequenceOfOne : readingLengths.hdist = 1 ∧
    readingLengths.codeAhead readingLengths.clt 1 1 ∧
    State.codeAhead { readingLengths with clt := oneCodeTree 15 } (oneCodeTree 15) 1 15 ∧
    State.codeAhead { readingLengths with clt := oneCodeTree 16 } (oneCodeTree 16) 1 16 :=
  ⟨rfl, codeAhead_of (by decide), codeAhead_of (by decide), codeAhead_of (by decide)⟩

theorem witness_LiteralsAppendTheirByte : decode ⟨.ll, 0⟩ = .ok .llLit0 ∧ decode ⟨.ll, 255⟩ = .ok .llLit255 := by
  decide
theorem witness_EndOfBlockEndsTheBlock : expanding.port = none ∧ expanding.fsm = .dispatching ∧
    expanding.phase = .expand ∧ expanding.codeAhead expanding.llt 1 256 :=
  ⟨rfl, rfl, rfl, codeAhead_of (by decide +kernel)⟩
/-- The first and last symbol of each class, the greatest extra-bits count exactly there and one too few. -/
theorem witness_LengthSymbolsSetLength : decode ⟨.ll, 257⟩ = .ok .llLen257 ∧ decode ⟨.ll, 264⟩ = .ok .llLen264 ∧
    decode ⟨.ll, 265⟩ = .ok .llLen265 ∧ decode ⟨.ll, 284⟩ = .ok .llLen284 ∧ decode ⟨.ll, 285⟩ = .ok .llLen285 ∧
    (wait .expand [0] 3).hasBits ((284 - 257) / 4 - 1) ∧ ¬ (wait .expand [0] 4).hasBits ((284 - 257) / 4 - 1) ∧
    (wait .expand [0] 7).hasBits ((265 - 257) / 4 - 1) ∧ (wait .expand [0] 4).cur ≤ 8 * 1 :=
  ⟨by decide, by decide, by decide, by decide, by decide, hasBits_of (by decide), not_hasBits_of (by decide),
    hasBits_of (by decide), by decide⟩
/-- `DISTANCE = OUT_LEN` for a code without and the two ends of the codes with extra bits. -/
theorem witness_DistanceCodesCompleteTheirMatch : decode ⟨.d, 1⟩ = .ok .d1 ∧ 1 + 1 ≤ (pair []).outLen ∧
    decode ⟨.d, 4⟩ = .ok .d4 ∧ State.hasBits { pair [1] with outLen := 6 } (4 / 2 - 1) ∧
    2 ^ (4 / 2 - 1 + 1) + 2 ^ (4 / 2 - 1) * (4 % 2) + 1 + (pair [1]).input.lsbField 0 (4 / 2 - 1) ≤ 6 ∧
    decode ⟨.d, 29⟩ = .ok .d29 ∧ State.hasBits { pair [0xFF, 0x1F] with outLen := 32768 } (29 / 2 - 1) ∧
    2 ^ (29 / 2 - 1 + 1) + 2 ^ (29 / 2 - 1) * (29 % 2) + 1 +
      (pair [0xFF, 0x1F]).input.lsbField 0 (29 / 2 - 1) ≤ 32768 :=
  ⟨by decide, by decide, by decide, hasBits_of (by decide), by decide, by decide, hasBits_of (by decide), by decide⟩
theorem witness_DistancesBeyondTheWindowFault : decode ⟨.d, 2⟩ = .ok .d2 ∧ (pair []).outLen < 2 + 1 ∧
    decode ⟨.d, 4⟩ = .ok .d4 ∧ ¬ (pair []).hasBits (4 / 2 - 1) ∧ (pair [1]).hasBits (4 / 2 - 1) ∧
    ({ pair [1] with outLen := 5 } : State).outLen <
      2 ^ (4 / 2 - 1 + 1) + 2 ^ (4 / 2 - 1) * (4 % 2) + 1 + (pair [1]).input.lsbField 0 (4 / 2 - 1) :=
  ⟨by decide, by decide, by decide, not_hasBits_of (by decide), hasBits_of (by decide), by decide⟩
theorem witness_CopyRepeatsTheWindowCyclically : (1 ≤ ({ pair [] with distance := 1 } : State).distance) ∧
    ({ pair [] with distance := 2 } : State).distance ≤ (pair []).outLen := by decide
theorem witness_CallsWithoutMeaningAreRefused : (at_ [] 0).tree .clt = .none ∧ 1 ≤ (pair []).length ∧
    (pair []).distance = 0 ∧ (pair []).outLen < ({ pair [] with distance := 3 } : State).distance := by decide
theorem witness_ElementsLeadToTheNext : ∀ i ∈ [Instr.blkStored true, .blkFixed false, .blkDynamic true, .stHdr,
    .dhHlit, .dhHdist, .dhHclen, .dhClcl, .clLen0, .clZero17, .llLit0, .llEob, .llLen285, .d0, .d1],
    runs (exec i { pair [0, 0, 0xFF, 0xFF] with hclen := 4, seqTable := .ll, hlit := 257 }) = true := by
  decide +kernel
theorem witness_ExpandGoesOnToTheEndOfBlock : expanding.codeAhead expanding.llt 1 256 ∧
    literalAhead.codeAhead literalAhead.llt 1 0x61 ∧ literalAhead.llt.built llSize = true :=
  ⟨codeAhead_of (by decide), codeAhead_of (by decide), by decide⟩
/-- R170's example: exactly its bytes. -/
theorem witness_BlkHdrRunsAStoredBlock : (at_ storedExample 0).input.bit 0 = (true).toNat ∧
    (at_ storedExample 0).input.bit 1 = 0 ∧ (at_ storedExample 0).input.bit 2 = 0 ∧ (0 + 3 + 7) / 8 = 1 ∧
    ((at_ storedExample 0).input.read 1).toNat + 256 * ((at_ storedExample 0).input.read 2).toNat = 3 ∧
    ((at_ storedExample 0).input.read 3).toNat + 256 * ((at_ storedExample 0).input.read 4).toNat = 0xFFFC ∧
    (3 ^^^ 0xFFFC) = 0xFFFF ∧ 1 + 4 + 3 ≤ (at_ storedExample 0).inLen := by decide
theorem witness_LoopsKeepTheirFrames : runs (exec .expand expanding) = true ∧
    runs (exec (.clseq .d) readingLengths) = true ∧ runs (exec .blkHdr (at_ storedExample 0)) = true := by
  decide +kernel

theorem witness_BlockInOnePieceAgreesWithItsElements : reading.Inv ∧ reading.fsm = .readingHeader :=
  ⟨reading_inv, rfl⟩
theorem witness_ExpandInOnePieceAgreesWithItsElements : expanding.Inv ∧ expanding.fsm = .dispatching ∧
    expanding.phase = .expand := ⟨expanding_inv, rfl, rfl⟩
theorem witness_ClseqInOnePieceAgreesWithItsElements : readingLengths.Inv ∧ readingLengths.fsm = .dispatching ∧
    readingLengths.phase = .codeLengths ∧ readingLengths.cli = 0 := ⟨readingLengths_inv, rfl, rfl, rfl⟩
theorem witness_EveryStepKeepsTheRunInOrder : reading.Inv ∧ expanding.Inv ∧ readingLengths.Inv ∧
    rawDistance.Inv ∧ finished.Inv ∧ faulted.Inv :=
  ⟨reading_inv, expanding_inv, readingLengths_inv, rawDistance_inv, finished_inv, faulted_inv⟩
/-- A block that ends with `BFINAL` 0 and one that ends with 1. -/
theorem witness_FsmMovesAsTheTableSays : expanding.Inv ∧ step expanding = .next (after (step expanding)) ∧
    expanding.fsm = .dispatching ∧ (after (step expanding)).fsm = .readingHeader ∧
    (after (step { expanding with bfinal := true })).fsm = .done :=
  ⟨expanding_inv, next_of_goesOn (by decide +kernel), rfl, by decide +kernel, by decide +kernel⟩
theorem witness_RunOnlyAppendsAndAdvances : (pair [0]).port = none ∧
    step { pair [0] with dtPresent := true, dt := oneCodeTree 1 } =
      .next (after (step { pair [0] with dtPresent := true, dt := oneCodeTree 1 })) ∧
    (after (step { pair [0] with dtPresent := true, dt := oneCodeTree 1 })).outLen = 5 :=
  ⟨rfl, next_of_goesOn (by decide +kernel), by decide +kernel⟩
theorem witness_EveryElementConsumesInput : expanding.Inv ∧ expanding.over = false ∧
    step expanding = .next (after (step expanding)) :=
  ⟨expanding_inv, rfl, next_of_goesOn (by decide +kernel)⟩
/-- One bit is read; the other input agrees on it and on nothing else. -/
theorem witness_StepReadsNothingBeyondItsCursor : expanding.port = none ∧
    step expanding = .next (after (step expanding)) ∧ (after (step expanding)).fsm ≠ .fault ∧
    (after (step expanding)).cur ≤ 8 * expanding.inLen ∧ (after (step expanding)).cur ≤ 8 * 2 ∧
    ∀ c, c < (after (step expanding)).cur → Memory.bit (Memory.ofBytes [0xFE, 0xFF]) c = expanding.input.bit c := by
  have h : (after (step expanding)).cur = 1 := by decide +kernel
  rw [h]
  exact ⟨rfl, next_of_goesOn (by decide +kernel), by decide +kernel, by decide, by decide, by decide⟩
theorem witness_OnlyTheFixedDistanceFieldSeesTheOrder : expanding.port = none ∧
    ¬ (expanding.fsm = .dispatching ∧ expanding.phase = .distance ∧ expanding.dtPresent = false) ∧
    step expanding = .next (after (step expanding)) := ⟨rfl, by decide, next_of_goesOn (by decide +kernel)⟩
theorem witness_FixedDistanceOrdersAgreeOnPalindromes : rawDistance.port = none ∧
    rawDistance.fsm = .dispatching ∧ rawDistance.phase = .distance ∧ rawDistance.dtPresent = false ∧
    rawDistance.hasBits 5 := ⟨rfl, rfl, rfl, rfl, hasBits_of (by decide)⟩
theorem witness_DecodeAndEncodeAgree : (Instr.rbBytes 65535).wellFormed = true ∧
    decode ⟨.op, 3 + 256 * 65535⟩ = .ok (.rbBytes 65535) := by decide

end Sys2Proof.Tests
end

section
/-! PROOF. What one step runs when the port is empty: one piece of pseudocode, whatever the element. The step
proofs then reason about that piece and never about the 361 arms of `exec` again. -/

namespace Sys2Proof.Machine

/-! ### An element in one piece -/

/-- The meaning of a block header by `BTYPE` (46_decode_loop.md R262 to R264); above 7 the word is no row. -/
def headerMeaning (bits : Nat) : M Unit :=
  match headerType bits with
  | 0 => modify fun s => { s.enterBlock (headerFinal bits) 0 with phase := .storedBody }
  | 1 => do
    modify fun s => s.enterBlock (headerFinal bits) 1
    fixedSetup
    modify fun s => { s with phase := .expand }
  | 2 => modify fun s => { s.enterBlock (headerFinal bits) 2 with phase := .hlit }
  | 3 => do
    modify fun s => s.enterBlock (headerFinal bits) 3
    raise .reservedBlockType
  | _ => refuse .noSuchInstruction

/-- The meaning of a header count by its bit offset (44_dynamic.md R191 to R193). -/
def fieldMeaning (bits : Nat) : M Unit :=
  match bits with
  | 0 => do
    readHlit
    modify fun s => { s with phase := .hdist }
  | 5 => do
    readHdist
    modify fun s => { s with phase := .hclen }
  | 10 => do
    readHclen
    modify fun s => { s with phase := .clcl }
  | _ => refuse .noSuchInstruction

/-- The meaning of a literal/length symbol, as R220 of 45_lz77.md branches. -/
def literalLengthMeaning (sym : Nat) : M Unit :=
  if sym < 256 then literal sym
  else if sym = 256 then modify fun s => { s with phase := .returned }
  else if sym ≤ 285 then thenDistance (lengthSymbol sym)
  else invalidSymbol

/-- The meaning of an element word that a fetch with an empty port answers; the only operation among those is
RESULT (46_decode_loop.md R266). -/
def elementMeaning (w : ElementWord) : M Unit :=
  match w.format with
  | .bh => headerMeaning w.bits
  | .st => do
    storedBody
    modify fun s => { s with phase := .returned }
  | .dh => fieldMeaning w.bits
  | .cll => do
    readClcl
    modify fun s => { s with phase := .buildClt }
  | .cl => if w.bits < clSize then codeLengthSymbol w.bits else refuse .noSuchInstruction
  | .ll => literalLengthMeaning w.bits
  | .d => thenCopy (distanceCode w.bits)
  | .op => modify fun s => { s with result := s.hostResult }

/-- Fetch, run, and go on to the next fetch: one step as one piece of pseudocode. -/
def element : M Unit := do
  let w ← fetch
  elementMeaning w
  settle

/-! ### The step is that piece -/

theorem perform_congr {m m' : M Unit} {s s' : State} (h : m s = m' s') : perform m s = perform m' s' := by
  rw [perform, h, perform]

/-- Where a meaning ends early the statements after it do not run, and a fault leaves none to run. -/
theorem runInstr_of_exec {i : Instr} {m : M Unit} {s : State} (h : exec i s = perform m s) :
    runInstr i s = perform (m >>= fun _ => settle) s := by
  rw [runInstr, h]
  cases hm : m s with
  | ok _ t =>
    rw [perform_of_ok hm]
    exact perform_congr (M.bind_of_ok (fun _ => settle) hm).symm
  | error e t =>
    have hb := M.bind_of_error (fun _ => settle) hm
    cases e with
    | raise c => rw [perform_of_raise hm, perform_of_raise hb]; exact perform_of_ok (settle_over rfl)
    | refuse r => rw [perform_of_refuse hm, perform_of_refuse hb]
    | stuck r => rw [perform_of_stuck hm, perform_of_stuck hb]

theorem runWord_of_exec {w : ElementWord} {i : Instr} {m : M Unit} {s : State} (hd : decode w = .ok i)
    (h : exec i s = perform m s) : runWord w s = perform (m >>= fun _ => settle) s := by
  rw [runWord, hd]
  exact runInstr_of_exec h

/-- A number beyond a table is no row of it. -/
theorem length_le_of_decodeRow {rows : List Instr} {e e' : DecodeError} {k : Nat}
    (h : decodeRow rows e k = .error e') : rows.length ≤ k := by
  unfold decodeRow at h
  split at h
  · cases h
  · next hk => exact List.getElem?_eq_none_iff.mp hk

/-- A row found in a table stands within it. -/
theorem lt_length_of_decodeRow {rows : List Instr} {e : DecodeError} {k : Nat} {i : Instr}
    (h : decodeRow rows e k = .ok i) : k < rows.length :=
  (List.getElem?_eq_some_iff.mp (getElem?_of_decodeRow h)).1

/-- Every literal/length row, by its symbol (45_lz77.md R221 to R226). -/
theorem exec_literalLength {i : Instr} {k : Nat} (h : encode i = ⟨.ll, k⟩) (s : State) :
    exec i s = perform (literalLengthMeaning k) s := by
  cases i <;> cases h <;> rfl

theorem runWord_header (k : Nat) (s : State) :
    runWord ⟨.bh, k⟩ s = perform (headerMeaning k >>= fun _ => settle) s := by
  unfold headerMeaning
  split
  case h_5 h0 h1 h2 h3 =>
    have hd : decode ⟨.bh, k⟩ = .error .noSuchHeader := by simp only [decode, decodeHeader]
    rw [runWord, hd]
    rfl
  case h_1 h => exact runWord_of_exec (i := .blkStored (headerFinal k)) (by simp only [decode, decodeHeader, h]) rfl
  case h_2 h => exact runWord_of_exec (i := .blkFixed (headerFinal k)) (by simp only [decode, decodeHeader, h]) rfl
  case h_3 h => exact runWord_of_exec (i := .blkDynamic (headerFinal k)) (by simp only [decode, decodeHeader, h]) rfl
  case h_4 h => exact runWord_of_exec (i := .blkReserved (headerFinal k)) (by simp only [decode, decodeHeader, h]) rfl

theorem runWord_field (k : Nat) (s : State) :
    runWord ⟨.dh, k⟩ s = perform (fieldMeaning k >>= fun _ => settle) s := by
  unfold fieldMeaning
  split
  case h_4 =>
    have hd : decode ⟨.dh, k⟩ = .error .noSuchField := by simp only [decode, decodeField]
    rw [runWord, hd]
    rfl
  all_goals exact runWord_of_exec rfl rfl

theorem runWord_codeLength (k : Nat) (s : State) :
    runWord ⟨.cl, k⟩ s = perform (elementMeaning ⟨.cl, k⟩ >>= fun _ => settle) s := by
  have hlen : clRows.length = clSize := rfl
  cases hd : decode ⟨.cl, k⟩ with
  | ok i =>
    have hk : k < clSize := lt_length_of_decodeRow hd
    have hm : elementMeaning ⟨.cl, k⟩ = codeLengthSymbol k := if_pos hk
    rw [hm]
    exact runWord_of_exec hd (exec_codeLength (encode_of_decode_cl hd) s)
  | error e =>
    have hk : ¬ k < clSize := Nat.not_lt.mpr (hlen ▸ length_le_of_decodeRow hd)
    have hm : elementMeaning ⟨.cl, k⟩ = refuse .noSuchInstruction := if_neg hk
    rw [hm, runWord, hd]
    rfl

/-- A symbol beyond the literal/length alphabet is as invalid as 286 and 287 (60_exceptions.md R285). -/
theorem runWord_literalLength (k : Nat) (s : State) :
    runWord ⟨.ll, k⟩ s = perform (literalLengthMeaning k >>= fun _ => settle) s := by
  cases hd : decode ⟨.ll, k⟩ with
  | ok i => exact runWord_of_exec hd (exec_literalLength (encode_of_decode_ll hd) s)
  | error e =>
    have hk : llRows.length ≤ k := length_le_of_decodeRow hd
    rw [show llRows.length = 288 by simpa using congrArg List.length llRows_words] at hk
    have hm : literalLengthMeaning k = invalidSymbol := by
      rw [literalLengthMeaning, if_neg (by omega), if_neg (by omega), if_neg (by omega)]
    rw [hm, runWord, hd]
    rfl

/-- A code beyond the distance alphabet is as invalid as 30 and 31 (60_exceptions.md R285). -/
theorem runWord_distance (k : Nat) (s : State) :
    runWord ⟨.d, k⟩ s = perform (thenCopy (distanceCode k) >>= fun _ => settle) s := by
  cases hd : decode ⟨.d, k⟩ with
  | ok i => exact runWord_of_exec hd (exec_distance (encode_of_decode_d hd) s)
  | error e =>
    have hk : 32 ≤ k := length_le_of_decodeRow hd
    have hm : distanceCode k = invalidDistanceCode := if_pos (by omega)
    rw [hm, runWord, hd]
    rfl

/-- What a fetch with an empty port answers: no operation but RESULT, and nothing for a group without
selecting bits. -/
def FromStream (w : ElementWord) : Prop :=
  (w.format = .op → w = resultWord) ∧ (w.format = .st ∨ w.format = .cll → w.bits = 0)

theorem runWord_eq_perform {w : ElementWord} (h : FromStream w) (s : State) :
    runWord w s = perform (elementMeaning w >>= fun _ => settle) s := by
  obtain ⟨hop, hgroup⟩ := h
  obtain ⟨format, k⟩ := w
  cases format with
  | bh => exact runWord_header k s
  | dh => exact runWord_field k s
  | cl => exact runWord_codeLength k s
  | ll => exact runWord_literalLength k s
  | d => exact runWord_distance k s
  | st =>
    obtain rfl : k = 0 := hgroup (.inl rfl)
    exact runWord_of_exec rfl rfl
  | cll =>
    obtain rfl : k = 0 := hgroup (.inr rfl)
    exact runWord_of_exec rfl rfl
  | op =>
    obtain rfl : k = 12 := congrArg ElementWord.bits (hop rfl)
    exact runWord_of_exec rfl rfl

/-! ### Going on after an element, by phase -/

theorem settle_buildClt {s : State} (h : s.over = false) (hp : s.phase = .buildClt) :
    settle s = (htBuild .clt >>= fun _ =>
      modify fun s => { s.beginSequence .ll with phase := .codeLengths }) s := by
  simp only [settle, M.get_bind, h, hp, Bool.false_eq_true, if_false]

theorem settle_codeLengths {s : State} (h : s.over = false) (hp : s.phase = .codeLengths) :
    settle s = (if s.seqLen s.seqTable ≤ s.cli then endSequence s.seqTable else pure ()) s := by
  simp only [settle, M.get_bind, h, hp, Bool.false_eq_true, if_false]

theorem settle_returned {s : State} (h : s.over = false) (hp : s.phase = .returned) :
    settle s = .ok () s.leaveBlock := by
  simp only [settle, M.get_bind, h, hp, Bool.false_eq_true, if_false]
  rfl

/-! ### The fetch by `FSM` and by phase -/

theorem fetch_readingHeader {s : State} (hport : s.port = none) (h : s.fsm = .readingHeader) :
    fetch s = (readHeader >>= fun bits => pure ⟨.bh, bits⟩) s := by
  simp only [fetch, M.get_bind, hport, h]

theorem fetch_dispatching {s : State} (hport : s.port = none) (h : s.fsm = .dispatching) :
    fetch s = fetchElement s := by
  simp only [fetch, M.get_bind, hport, h]

theorem State.over_iff (s : State) : s.over = true ↔ s.fsm = .done ∨ s.fsm = .fault := by
  simp [State.over]

theorem fetch_over {s : State} (hport : s.port = none) (h : s.over = true) : fetch s = .ok resultWord s := by
  obtain h | h := (State.over_iff s).mp h <;> simp [fetch, hport, h]

theorem fetchElement_codeLengths {s : State} (h : s.phase = .codeLengths) :
    fetchElement s = (do
      let sym ← htDecode .clt
      modify fun s => { s with clsym := sym }
      return ⟨.cl, sym⟩ : M ElementWord) s := by
  simp only [fetchElement, M.get_bind, h]

theorem fetchElement_expand {s : State} (h : s.phase = .expand) :
    fetchElement s = (do
      let sym ← htDecode .llt
      modify fun s => { s with sym := sym }
      return ⟨.ll, sym⟩ : M ElementWord) s := by
  simp only [fetchElement, M.get_bind, h]

theorem fetchElement_distance {s : State} (h : s.phase = .distance) :
    fetchElement s = (do
      let code ← distFetch
      modify fun s => { s with dcode := code }
      return ⟨.d, code⟩ : M ElementWord) s := by
  simp only [fetchElement, M.get_bind, h]

/-- A word read through a tree or a field has the format that was asked for. -/
theorem format_of_read {f : Format} {m : M Nat} {g : Nat → State → State} {s t : State} {w : ElementWord}
    (h : (m >>= fun v => (modify (g v) : M PUnit) >>= fun _ => pure ⟨f, v⟩) s = .ok w t) : w.format = f := by
  obtain ⟨v, u, -, hv⟩ := M.of_bind_ok h
  cases hv
  rfl

theorem fromStream_of_format {w : ElementWord} (hop : w.format ≠ .op) (hst : w.format ≠ .st)
    (hcll : w.format ≠ .cll) : FromStream w :=
  ⟨fun h => absurd h hop, fun h => (h.elim hst hcll).elim⟩

theorem fromStream_of_fetchElement {s t : State} {w : ElementWord} (h : fetchElement s = .ok w t) :
    FromStream w := by
  cases hp : s.phase
  case codeLengths =>
    rw [fetchElement_codeLengths hp] at h
    have hf := format_of_read h
    exact fromStream_of_format (by simp [hf]) (by simp [hf]) (by simp [hf])
  case expand =>
    rw [fetchElement_expand hp] at h
    have hf := format_of_read h
    exact fromStream_of_format (by simp [hf]) (by simp [hf]) (by simp [hf])
  case distance =>
    rw [fetchElement_distance hp] at h
    have hf := format_of_read h
    exact fromStream_of_format (by simp [hf]) (by simp [hf]) (by simp [hf])
  all_goals simp only [fetchElement, M.get_bind, hp, M.pure_apply, M.refuse_apply] at h; cases h
  case storedBody | clcl => exact ⟨nofun, fun _ => rfl⟩
  case hlit | hdist | hclen => exact fromStream_of_format nofun nofun nofun

theorem fromStream_of_fetch {s t : State} {w : ElementWord} (hport : s.port = none)
    (h : fetch s = .ok w t) : FromStream w := by
  cases hf : s.fsm with
  | readingHeader =>
    rw [fetch_readingHeader hport hf] at h
    obtain ⟨bits, u, -, hw⟩ := M.of_bind_ok h
    cases hw
    exact ⟨nofun, nofun⟩
  | dispatching => exact fromStream_of_fetchElement ((fetch_dispatching hport hf).symm.trans h)
  | done =>
    rw [fetch_over hport ((State.over_iff s).mpr (.inl hf))] at h
    cases h
    exact ⟨fun _ => rfl, nofun⟩
  | fault =>
    rw [fetch_over hport ((State.over_iff s).mpr (.inr hf))] at h
    cases h
    exact ⟨fun _ => rfl, nofun⟩

/-- A step with an empty port is its element run in one piece. -/
theorem step_eq_perform {s : State} (hport : s.port = none) : step s = perform element s := by
  cases hf : fetch s with
  | ok w t =>
    rw [step_of_fetch hf, runWord_eq_perform (fromStream_of_fetch hport hf)]
    exact perform_congr (M.bind_of_ok (fun w => elementMeaning w >>= fun _ => settle) hf).symm
  | error e t => rw [step_of_fetch_error hf, perform, element, M.bind_of_error _ hf]

end Sys2Proof.Machine
end

section
/-! PROOF. What no element takes back: `IN` and the configuration are constant, the cursor and `OUT` only grow.
The relation is a preorder on states, so that a piece of pseudocode keeps it when its parts do. -/

namespace Sys2Proof.Machine

/-! ### Growing -/

/-- `t` is `s` grown: nothing of the stream, the configuration or an empty port is written, the cursor does
not go back and no byte of `OUT` changes (10_state.md R22, R23, 20_memory.md R61, R73). -/
structure State.GrowsTo (s t : State) : Prop where
  input : t.input = s.input
  inLen : t.inLen = s.inLen
  cfg : t.cfg = s.cfg
  port : s.port = none → t.port = none
  cur : s.cur ≤ t.cur
  outLen : s.outLen ≤ t.outLen
  bytes : ∀ a, a < s.outLen → t.out.read a = s.out.read a

/-- The items `State.GrowsTo` speaks of. -/
def State.footprint (s : State) : Memory × Nat × Config × Option Nat × Nat × Memory × Nat :=
  (s.input, s.inLen, s.cfg, s.port, s.cur, s.out, s.outLen)

/-- Writing registers outside the footprint is no change at all. -/
theorem State.GrowsTo.of_footprint {s t : State} (h : t.footprint = s.footprint) : s.GrowsTo t := by
  simp only [State.footprint, Prod.mk.injEq] at h
  obtain ⟨hi, hn, hc, hp, hcur, hout, hlen⟩ := h
  exact ⟨hi, hn, hc, fun h => hp.trans h, hcur.ge, hlen.ge, fun a _ => by rw [hout]⟩

theorem State.GrowsTo.trans {s t u : State} (h : s.GrowsTo t) (h' : t.GrowsTo u) : s.GrowsTo u where
  input := h'.input.trans h.input
  inLen := h'.inLen.trans h.inLen
  cfg := h'.cfg.trans h.cfg
  port := h'.port ∘ h.port
  cur := h.cur.trans h'.cur
  outLen := h.outLen.trans h'.outLen
  bytes a ha := (h'.bytes a (ha.trans_le h.outLen)).trans (h.bytes a ha)

/-- Moving the cursor forward. -/
theorem State.GrowsTo.advance {s : State} {c : Nat} (h : s.cur ≤ c) : s.GrowsTo { s with cur := c } :=
  ⟨rfl, rfl, rfl, id, h, le_refl _, fun _ _ => rfl⟩

/-- An appended byte lands beyond every byte there is. -/
theorem State.GrowsTo.append (s : State) (b : Byte) : s.GrowsTo (s.append b) :=
  ⟨rfl, rfl, rfl, id, le_refl _, Nat.le_succ _, fun _ ha => Memory.read_write_other _ _ ha.ne⟩

theorem State.GrowsTo.appendAll (s : State) (data : List Byte) : s.GrowsTo (s.appendAll data) := by
  induction data generalizing s with
  | nil => exact .of_footprint rfl
  | cons b data ih => exact (State.GrowsTo.append s b).trans (ih _)

theorem State.GrowsTo.emitLengths (s : State) (v n : Nat) : s.GrowsTo (s.emitLengths v n) := by
  rw [State.emitLengths_frame]
  exact .of_footprint rfl

/-! ### Pieces of pseudocode that only grow the state -/

/-- The state in which a piece of pseudocode ends, early or not. -/
def endState {α : Type} (m : M α) (s : State) : State :=
  match m s with
  | .ok _ t => t
  | .error _ t => t

/-- The piece only grows the state, wherever it is run and however it ends. -/
def Grows {α : Type} (m : M α) : Prop := ∀ s : State, s.GrowsTo (endState m s)

variable {α β : Type}

theorem endState_of_ok {m : M α} {s t : State} {a : α} (h : m s = .ok a t) : endState m s = t := by
  rw [endState, h]

theorem endState_of_error {m : M α} {s t : State} {e : Trap} (h : m s = .error e t) : endState m s = t := by
  rw [endState, h]

/-- What a piece does where it runs as another does. -/
theorem growsTo_of_eq {m n : M α} {s : State} (h : m s = n s) (hn : Grows n) : s.GrowsTo (endState m s) := by
  have := hn s
  rwa [endState, ← h] at this

theorem growsTo_of_ok {m : M α} {s t : State} {a : α} (h : m s = .ok a t) (ht : s.GrowsTo t) :
    s.GrowsTo (endState m s) := by
  rwa [endState_of_ok h]

/-- An early end where the piece began changes nothing. -/
theorem growsTo_of_error {m : M α} {s : State} {e : Trap} (h : m s = .error e s) :
    s.GrowsTo (endState m s) := by
  rw [endState_of_error h]
  exact .of_footprint rfl

theorem Grows.returns (a : α) : Grows (pure a : M α) := fun _ => .of_footprint rfl
theorem Grows.reads : Grows (get : M State) := fun _ => .of_footprint rfl
theorem Grows.raises (c : Cause) : Grows (raise c : M α) := fun _ => .of_footprint rfl
theorem Grows.refuses (r : Refusal) : Grows (refuse r : M α) := fun _ => .of_footprint rfl
theorem Grows.modifies {g : State → State} (h : ∀ s : State, s.GrowsTo (g s)) : Grows (modify g : M PUnit) := h

/-- An update that writes no item of the footprint. -/
theorem Grows.update {g : State → State} (h : ∀ s, (g s).footprint = s.footprint) :
    Grows (modify g : M PUnit) := fun s => .of_footprint (h s)

theorem Grows.bind {m : M α} {f : α → M β} (hm : Grows m) (hf : ∀ a, Grows (f a)) : Grows (m >>= f) := by
  intro s
  have h := hm s
  cases hs : m s with
  | ok a t =>
    rw [endState_of_ok hs] at h
    rw [endState, M.bind_of_ok f hs]
    exact h.trans (hf a t)
  | error e t =>
    rw [endState_of_error hs] at h
    rwa [endState, M.bind_of_error f hs]

theorem Grows.ite {p : Prop} [Decidable p] {m n : M α} (hm : Grows m) (hn : Grows n) :
    Grows (if p then m else n) := by
  split
  · exact hm
  · exact hn

/-! ### The BitReader and HT -/

theorem rbBit_grows : Grows rbBit := by
  intro s
  by_cases h : s.hasBits 1
  · exact growsTo_of_ok (rbBit_ok h) (.advance (Nat.le_succ _))
  · exact growsTo_of_error (rbBit_short h)

theorem rbLsbLoop_grows (n i v : Nat) : Grows (rbLsbLoop n i v) := by
  induction n generalizing i v with
  | zero => exact .returns v
  | succ n ih => exact .bind rbBit_grows fun _ => ih _ _

theorem rbLsb_grows (n : Nat) : Grows (rbLsb n) := rbLsbLoop_grows n 0 0

theorem rbMsbLoop_grows (n v : Nat) : Grows (rbMsbLoop n v) := by
  induction n generalizing v with
  | zero => exact .returns v
  | succ n ih => exact .bind rbBit_grows fun _ => ih _

theorem rbMsb_grows (n : Nat) : Grows (rbMsb n) := rbMsbLoop_grows n 0

theorem rbBytes_grows (n : Nat) : Grows (rbBytes n) := by
  intro s
  by_cases ha : s.cur % 8 = 0
  · by_cases h : s.cur / 8 + n ≤ s.inLen
    · exact growsTo_of_ok (rbBytes_ok ha h) (.advance (Nat.le_add_right _ _))
    · exact growsTo_of_error (rbBytes_short ha (by omega))
  · exact growsTo_of_error (rbBytes_unaligned ha)

theorem rbAlign_grows : Grows rbAlign := fun s =>
  growsTo_of_ok (rbAlign_ok s) (.advance (by omega))

theorem htBuild_grows (t : TreeSel) : Grows (htBuild t) := by
  intro s
  cases h : overSubscribed (countLengths (s.lengthsOf t)) with
  | true =>
    rw [endState_of_error (htBuild_over h)]
    exact .of_footprint rfl
  | false => exact growsTo_of_ok (htBuild_ok h) (.of_footprint (by cases t <;> rfl))

theorem descend_grows (tree : Tree) : Grows tree.descend := by
  induction tree with
  | none => exact .refuses _
  | node x y sym ihx ihy =>
    refine .ite ?_ (.bind rbBit_grows fun b => .ite (.ite (.raises _) ihy) (.ite (.raises _) ihx))
    cases sym with
    | none => exact .raises _
    | some v => exact .returns v

theorem htDecode_grows (t : TreeSel) : Grows (htDecode t) := .bind .reads fun s => descend_grows (s.tree t)

/-! ### The expander -/

theorem lengthSymbol_grows (sym : Nat) : Grows (lengthSymbol sym) :=
  .ite (.update fun _ => rfl) <| .ite (.update fun _ => rfl) <|
    .bind (.update fun _ => rfl) fun _ => .bind (rbLsb_grows _) fun _ => .update fun _ => rfl

theorem thenDistance_grows {m : M Unit} (h : Grows m) : Grows (thenDistance m) :=
  .bind h fun _ => .update fun _ => rfl

theorem literalLengthMeaning_grows (sym : Nat) : Grows (literalLengthMeaning sym) :=
  .ite (.modifies fun s => .append s _) <| .ite (.update fun _ => rfl) <|
    .ite (thenDistance_grows (lengthSymbol_grows sym)) (.raises _)

theorem distFetch_grows : Grows distFetch := by
  refine .bind .reads fun s => .ite (htDecode_grows .dt) ?_
  cases s.cfg.fixedDistOrder with
  | lsb => exact rbLsb_grows 5
  | msb => exact rbMsb_grows 5

theorem distanceCode_grows (code : Nat) : Grows (distanceCode code) :=
  .ite (.raises _) <| .ite (.update fun _ => rfl) <|
    .bind (.update fun _ => rfl) fun _ => .bind (rbLsb_grows _) fun _ => .update fun _ => rfl

theorem windowCheck_grows : Grows windowCheck := .bind .reads fun _ => .ite (.returns _) (.raises _)

theorem copyByte_grows : Grows copyByte := by
  intro s
  by_cases h : 1 ≤ s.distance ∧ s.distance ≤ s.outLen
  · exact growsTo_of_ok (copyByte_ok h.1 h.2) (.append s _)
  · exact growsTo_of_error (copyByte_outside (by omega))

theorem copyBytes_grows (n : Nat) : Grows (copyBytes n) := by
  induction n with
  | zero => exact .returns _
  | succ n ih => exact .bind copyByte_grows fun _ => ih

theorem thenCopy_grows {m : M Unit} (h : Grows m) : Grows (thenCopy m) :=
  .bind h fun _ => .bind windowCheck_grows fun _ =>
    .bind (.bind .reads fun s => copyBytes_grows s.length) fun _ => .update fun _ => rfl

/-! ### The block decoders -/

theorem storedBody_grows : Grows storedBody :=
  .bind rbAlign_grows fun _ =>
    .bind (rbLsb_grows 16) fun _ => .bind (.update fun _ => rfl) fun _ =>
    .bind (rbLsb_grows 16) fun _ => .bind (.update fun _ => rfl) fun _ =>
    .bind .reads fun _ =>
      .ite (.bind (rbBytes_grows _) fun data => .modifies fun s => .appendAll s data) (.raises _)

theorem fixedSetup_grows : Grows fixedSetup :=
  .bind (.update fun _ => rfl) fun _ => .bind (htBuild_grows .llt) fun _ => .update fun _ => rfl

theorem headerMeaning_grows (bits : Nat) : Grows (headerMeaning bits) := by
  unfold headerMeaning
  split
  · exact .update fun _ => rfl
  · exact .bind (.update fun _ => rfl) fun _ => .bind fixedSetup_grows fun _ => .update fun _ => rfl
  · exact .update fun _ => rfl
  · exact .bind (.update fun _ => rfl) fun _ => .raises _
  · exact .refuses _

/-- A header count: a field is read into its register, and the next field is waited for. -/
theorem readThenWait_grows {n : Nat} {g : Nat → State → State} {p : State → State}
    (hg : ∀ v s, (g v s).footprint = s.footprint) (hp : ∀ s, (p s).footprint = s.footprint) :
    Grows ((rbLsb n >>= fun v => modify (g v)) >>= fun _ => modify p : M PUnit) :=
  .bind (.bind (rbLsb_grows n) fun v => .update (hg v)) fun _ => .update hp

theorem fieldMeaning_grows (bits : Nat) : Grows (fieldMeaning bits) := by
  unfold fieldMeaning
  split
  · exact readThenWait_grows (fun _ _ => rfl) fun _ => rfl
  · exact readThenWait_grows (fun _ _ => rfl) fun _ => rfl
  · exact readThenWait_grows (fun _ _ => rfl) fun _ => rfl
  · exact .refuses _

theorem readClclEntries_grows (places : List Nat) : Grows (readClclEntries places) := by
  induction places with
  | nil => exact .returns _
  | cons place places ih =>
    exact .bind (rbLsb_grows 3) fun _ => .bind (.update fun _ => rfl) fun _ => ih

theorem readClcl_grows : Grows readClcl :=
  .bind (.update fun _ => rfl) fun _ => .bind .reads fun _ => readClclEntries_grows _

theorem emitRun_grows (v : Nat) : Grows (emitRun v) := by
  intro s
  by_cases h : s.cli + s.rep ≤ s.seqLen s.seqTable
  · exact growsTo_of_ok (emitRun_ok h) (.emitLengths s v s.rep)
  · exact growsTo_of_error (emitRun_over (by omega))

/-- The extra bits of a run, and the run. -/
theorem readRun_grows (n v : Nat) {g : Nat → State → State} (hg : ∀ raw s, (g raw s).footprint = s.footprint) :
    Grows (rbLsb n >>= fun raw => (modify (g raw) : M PUnit) >>= fun _ => emitRun v) :=
  .bind (rbLsb_grows n) fun raw => .bind (.update (hg raw)) fun _ => emitRun_grows v

theorem codeLengthSymbol_grows (sym : Nat) : Grows (codeLengthSymbol sym) := by
  refine .ite (.modifies fun s => .emitLengths s sym 1) <| .ite (.bind .reads fun s => .ite (.raises _) ?_) <|
    .ite ?_ ?_
  · exact readRun_grows 2 _ fun _ _ => rfl
  · exact readRun_grows 3 0 fun _ _ => rfl
  · exact readRun_grows 7 0 fun _ _ => rfl

theorem endSequence_grows (t : SeqTable) : Grows (endSequence t) := by
  cases t with
  | ll => exact .update fun _ => rfl
  | d =>
    exact .bind (.bind (htBuild_grows .llt) fun _ => .bind (htBuild_grows .dt) fun _ => .update fun _ => rfl)
      fun _ => .update fun _ => rfl

/-! ### Fetch, run, settle -/

theorem readHeader_grows : Grows readHeader :=
  .bind rbBit_grows fun _ => .bind (rbLsb_grows 2) fun _ => .returns _

theorem fetchElement_grows : Grows fetchElement := by
  refine .bind .reads fun s => ?_
  cases s.phase with
  | codeLengths => exact .bind (htDecode_grows .clt) fun _ => .bind (.update fun _ => rfl) fun _ => .returns _
  | expand => exact .bind (htDecode_grows .llt) fun _ => .bind (.update fun _ => rfl) fun _ => .returns _
  | distance => exact .bind distFetch_grows fun _ => .bind (.update fun _ => rfl) fun _ => .returns _
  | idle | buildClt | returned => exact .refuses _
  | storedBody | hlit | hdist | hclen | clcl => exact .returns _

theorem elementMeaning_grows (w : ElementWord) : Grows (elementMeaning w) := by
  obtain ⟨format, k⟩ := w
  cases format with
  | bh => exact headerMeaning_grows k
  | st => exact .bind storedBody_grows fun _ => .update fun _ => rfl
  | dh => exact fieldMeaning_grows k
  | cll => exact .bind readClcl_grows fun _ => .update fun _ => rfl
  | cl => exact .ite (codeLengthSymbol_grows k) (.refuses _)
  | ll => exact literalLengthMeaning_grows k
  | d => exact thenCopy_grows (distanceCode_grows k)
  | op => exact .update fun _ => rfl

theorem settle_grows : Grows settle := by
  intro s
  cases ho : s.over with
  | true => exact growsTo_of_ok (settle_over ho) (.of_footprint rfl)
  | false =>
    cases hp : s.phase
    case buildClt =>
      exact growsTo_of_eq (settle_buildClt ho hp) (.bind (htBuild_grows .clt) fun _ => .update fun _ => rfl)
    case codeLengths =>
      exact growsTo_of_eq (settle_codeLengths ho hp) (.ite (endSequence_grows _) (.returns _))
    case returned => exact growsTo_of_ok (settle_returned ho hp) (.of_footprint rfl)
    all_goals exact growsTo_of_ok (settle_waiting (by simp [hp]) (by simp [hp]) (by simp [hp])) (.of_footprint rfl)

/-- With an empty port a fetch takes nothing from it. -/
theorem fetch_growsTo {s : State} (hport : s.port = none) : s.GrowsTo (endState fetch s) := by
  cases hf : s.fsm with
  | readingHeader =>
    exact growsTo_of_eq (fetch_readingHeader hport hf) (.bind readHeader_grows fun _ => .returns _)
  | dispatching => exact growsTo_of_eq (fetch_dispatching hport hf) fetchElement_grows
  | done => exact growsTo_of_ok (fetch_over hport ((State.over_iff s).mpr (.inl hf))) (.of_footprint rfl)
  | fault => exact growsTo_of_ok (fetch_over hport ((State.over_iff s).mpr (.inr hf))) (.of_footprint rfl)

theorem element_growsTo {s : State} (hport : s.port = none) : s.GrowsTo (endState element s) := by
  have h := fetch_growsTo hport
  cases hf : fetch s with
  | ok w t =>
    rw [endState_of_ok hf] at h
    rw [endState, element, M.bind_of_ok _ hf]
    exact h.trans (Grows.bind (elementMeaning_grows w) (fun _ => settle_grows) t)
  | error e t =>
    rw [endState_of_error hf] at h
    rwa [endState, element, M.bind_of_error _ hf]

/-- Every step with an empty port only grows the state, a step that faults too. -/
theorem step_growsTo {s t : State} (hport : s.port = none) (h : step s = .next t) : s.GrowsTo t := by
  have hg := element_growsTo hport
  rw [step_eq_perform hport] at h
  obtain hok | ⟨c, u, herr, rfl⟩ := perform_next h
  · rwa [endState_of_ok hok] at hg
  · rw [endState_of_error herr] at hg
    exact hg.trans (.of_footprint rfl)

/-- Settles O53: a step is a piece of pseudocode whose parts all only grow the state. -/
theorem runOnlyAppendsAndAdvances : Obligations.RunOnlyAppendsAndAdvances := by
  intro s t hport h
  have hg := step_growsTo hport h
  exact ⟨hg.input, hg.inLen, hg.cfg, hg.port hport, fun _ => ⟨hg.cur, hg.outLen, hg.bytes⟩⟩

end Sys2Proof.Machine
end

section
/-! PROOF. The run stays in order. `State.Running` is split into what holds at every moment (`State.Sound`) and
what the phase asks for (`State.ReadyFor`), so that each element of the stream is one short lemma: from what its
phase asks for, it leaves what the next phase asks for, or it raises a fault of the spec. -/

namespace Sys2Proof.Machine

variable {α β : Type}

/-! ### Pieces of pseudocode that meet a postcondition or raise a fault -/

/-- A fault of the spec, which is a next state (60_exceptions.md R292), and no stop of the model's. -/
def Trap.IsFault (e : Trap) : Prop := ∃ c, e = .raise c ∧ c ≠ .none

/-- Run from `s` the piece ends well and as `Q` says, or it raises a fault of the spec. -/
structure Meets (m : M α) (s : State) (Q : α → State → Prop) : Prop where
  ok : ∀ a t, m s = .ok a t → Q a t
  fault : ∀ e t, m s = .error e t → e.IsFault

section
variable {m : M α} {s t : State} {Q : α → State → Prop}

theorem meets_of_ok {a : α} (h : m s = .ok a t) (hq : Q a t) : Meets m s Q where
  ok a' t' h' := by
    rw [h] at h'
    cases h'
    exact hq
  fault e t' h' := by
    rw [h] at h'
    cases h'

theorem meets_of_raise {c : Cause} (h : m s = .error (.raise c) t) (hc : c ≠ .none) : Meets m s Q where
  ok a t' h' := by
    rw [h] at h'
    cases h'
  fault e t' h' := by
    rw [h] at h'
    cases h'
    exact ⟨c, rfl, hc⟩

theorem meets_of_eq {n : M α} {u : State} (h : m s = n u) (hn : Meets n u Q) : Meets m s Q :=
  ⟨fun a t h' => hn.ok a t (h ▸ h'), fun e t h' => hn.fault e t (h ▸ h')⟩

theorem meets_bind {f : α → M β} {R : β → State → Prop}
    (h : Meets m s fun a t => Meets (f a) t R) : Meets (m >>= f) s R where
  ok b u hb := by
    obtain ⟨a, t, ha, hf⟩ := M.of_bind_ok hb
    exact (h.ok a t ha).ok b u hf
  fault e u he := by
    obtain hm | ⟨a, t, ha, hf⟩ := M.of_bind_error he
    · exact h.fault e u hm
    · exact (h.ok a t ha).fault e u hf

theorem meets_get_bind {f : State → M β} {R : β → State → Prop} (h : Meets (f s) s R) :
    Meets ((get : M State) >>= f) s R := meets_of_eq (M.get_bind f s) h

theorem meets_modify_bind {g : State → State} {f : PUnit → M β} {R : β → State → Prop}
    (h : Meets (f ⟨⟩) (g s) R) : Meets ((modify g : M PUnit) >>= f) s R := meets_of_eq (M.modify_bind g f s) h

theorem meets_modify {g : State → State} {R : PUnit → State → Prop} (h : R ⟨⟩ (g s)) :
    Meets (modify g : M PUnit) s R := meets_of_ok rfl h

theorem meets_mono {R : α → State → Prop} (h : Meets m s Q) (hr : ∀ a t, Q a t → R a t) : Meets m s R :=
  ⟨fun a t ha => hr a t (h.ok a t ha), h.fault⟩

end

/-! ### What holds at every moment of a run -/

/-- A code-length table of its size, every entry in its range (10_state.md R30 to R32). -/
structure Bounded (table : List Nat) (size bound : Nat) : Prop where
  length : table.length = size
  entry_le : ∀ l ∈ table, l ≤ bound

/-- The ranges of the state that no phase and no `FSM` change: the part of `State.Running` that holds within a
step too. -/
structure State.Sound (s : State) : Prop where
  inputForm : s.input.wf = true ∧ s.input.within s.inLen = true
  outForm : s.out.wf = true ∧ s.out.within s.outLen = true
  cursor : s.cur ≤ 8 * s.inLen
  clcl : Bounded s.clcl clSize 7
  llcl : Bounded s.llcl llSize maxBits
  dcl : Bounded s.dcl dSize maxBits
  builder : s.blCount.length = maxBits + 1 ∧ s.nextCode.length = maxBits + 1
  headerRanges : s.btype ≤ 3 ∧ s.hlit ≤ llSize ∧ s.hdist ≤ dSize ∧ s.hclen ≤ clSize

/-- The trees the expander decodes with (45_lz77.md R220). -/
def State.HasTrees (s : State) : Prop :=
  s.llt.built llSize = true ∧ (s.dtPresent = true → s.dt.built dSize = true)

/-- What a phase finds: the registers the elements before it have filled. The two phases that end inside a step
are among them, and so is a sequence that is complete (`CLI` = its length) and still to be ended. -/
def State.ReadyFor (s : State) : Phase → Prop
  | .idle => s.clt = .none ∧ s.llt = .none ∧ s.dt = .none
  | .storedBody => True
  | .hlit => True
  | .hdist => 257 ≤ s.hlit
  | .hclen => 257 ≤ s.hlit ∧ 1 ≤ s.hdist
  | .clcl => 257 ≤ s.hlit ∧ 1 ≤ s.hdist ∧ 4 ≤ s.hclen
  | .buildClt => 257 ≤ s.hlit ∧ 1 ≤ s.hdist
  | .codeLengths => 257 ≤ s.hlit ∧ 1 ≤ s.hdist ∧ s.clt.built clSize = true ∧ s.cli ≤ s.seqLen s.seqTable
  | .expand => s.HasTrees
  | .distance => s.HasTrees ∧ 3 ≤ s.length ∧ s.length ≤ 258
  | .returned => True

/-- A block decoder between two elements, before the statements that follow an element are run. -/
structure State.Busy (s : State) : Prop where
  sound : s.Sound
  fsm : s.fsm = .dispatching
  err : s.err = .none
  phase : s.phase ≠ .idle
  ready : s.ReadyFor s.phase

/-- A run that has not faulted, after a whole step. -/
structure State.InOrder (s : State) : Prop where
  fsm : s.fsm ≠ .fault
  err : s.err = .none
  running : s.Running

theorem State.Busy.not_over {s : State} (h : s.Busy) : s.over = false := by
  simp [State.over, h.fsm]

theorem State.Running.sound {s : State} (h : s.Running) : s.Sound := by
  obtain ⟨hcl, hll, hd, hbl, hnext⟩ := h.tableSizes
  obtain ⟨rcl, rll, rd⟩ := h.lengthRanges
  exact ⟨h.inputForm, h.outForm, h.cursor, ⟨hcl, rcl⟩, ⟨hll, rll⟩, ⟨hd, rd⟩, ⟨hbl, hnext⟩, h.headerRanges⟩

theorem State.Running.readyFor {s : State} (h : s.Running) : s.ReadyFor s.phase := by
  cases hp : s.phase with
  | idle => exact h.noTrees (h.phaseByFsm.mp hp)
  | storedBody | hlit | returned => trivial
  | hdist => exact h.hlitRead (by simp [hp])
  | hclen => exact ⟨h.hlitRead (by simp [hp]), h.hdistRead (by simp [hp])⟩
  | clcl => exact ⟨h.hlitRead (by simp [hp]), h.hdistRead (by simp [hp]), h.hclenRead hp⟩
  | buildClt => exact absurd hp h.phaseFetches.1
  | codeLengths =>
    obtain ⟨hclt, hcli⟩ := h.codeLengths hp
    exact ⟨h.hlitRead (by simp [hp]), h.hdistRead (by simp [hp]), hclt, hcli.le⟩
  | expand => exact h.expander (.inl hp)
  | distance => exact ⟨h.expander (.inr hp), h.matchLength hp⟩

/-- The invariant from its parts: a phase that fetches, with what it asks for. -/
theorem State.running_of_ready {s : State} (hs : s.Sound) (hphase : s.phase = .idle ↔ s.fsm ≠ .dispatching)
    (hfetches : s.phase ≠ .buildClt ∧ s.phase ≠ .returned) (hr : s.ReadyFor s.phase)
    (hmissing : s.phase = .codeLengths → s.cli < s.seqLen s.seqTable) : s.Running where
  phaseByFsm := hphase
  phaseFetches := hfetches
  inputForm := hs.inputForm
  outForm := hs.outForm
  cursor := hs.cursor
  tableSizes := ⟨hs.clcl.length, hs.llcl.length, hs.dcl.length, hs.builder⟩
  lengthRanges := ⟨hs.clcl.entry_le, hs.llcl.entry_le, hs.dcl.entry_le⟩
  headerRanges := hs.headerRanges
  hlitRead := by
    rintro (h | h | h | h) <;> rw [h] at hr
    · exact hr
    all_goals exact hr.1
  hdistRead := by
    rintro (h | h | h) <;> rw [h] at hr
    · exact hr.2
    all_goals exact hr.2.1
  hclenRead h := by rw [h] at hr; exact hr.2.2
  codeLengths h := ⟨by rw [h] at hr; exact hr.2.2.1, hmissing h⟩
  expander := by
    rintro (h | h) <;> rw [h] at hr
    · exact hr
    · exact hr.1
  matchLength h := by rw [h] at hr; exact hr.2
  noTrees h := by rw [hphase.mpr h] at hr; exact hr

/-- Between two blocks and after the last one nothing but the trees' absence is asked for. -/
theorem State.running_of_idle {s : State} (hs : s.Sound) (hp : s.phase = .idle) (hf : s.fsm ≠ .dispatching)
    (ht : s.ReadyFor .idle) : s.Running :=
  running_of_ready hs ⟨fun _ => hf, fun _ => hp⟩ (by simp [hp]) (hp ▸ ht) (by simp [hp])

theorem State.Busy.inOrder {s : State} (h : s.Busy) (hb : s.phase ≠ .buildClt) (hr : s.phase ≠ .returned)
    (hmissing : s.phase = .codeLengths → s.cli < s.seqLen s.seqTable) : s.InOrder :=
  ⟨by simp [h.fsm], h.err,
    running_of_ready h.sound ⟨fun hp => absurd hp h.phase, fun hf => absurd h.fsm hf⟩ ⟨hb, hr⟩ h.ready hmissing⟩

/-! ### The BitReader and HT in a sound state -/

/-- A field of at least one bit is there and read, or the stream is truncated (40_bitreader.md R133). -/
theorem rbLsb_meets {n : Nat} {s : State} {Q : Nat → State → Prop} (hs : s.cur ≤ 8 * s.inLen)
    (hq : ∀ v, v < 2 ^ n → s.hasBits n → Q v { s with cur := s.cur + n }) : Meets (rbLsb n) s Q := by
  by_cases h : s.hasBits n
  · exact meets_of_ok (rbLsb_ok h) (hq _ (Memory.lsbField_lt _ _ _) h)
  · obtain ⟨t, ht⟩ := rbLsb_short hs h
    exact meets_of_raise ht (by decide)

theorem rbMsb_meets {n : Nat} {s : State} {Q : Nat → State → Prop} (hs : s.cur ≤ 8 * s.inLen)
    (hq : ∀ v, v < 2 ^ n → s.hasBits n → Q v { s with cur := s.cur + n }) : Meets (rbMsb n) s Q := by
  by_cases h : s.hasBits n
  · exact meets_of_ok (rbMsb_ok h) (hq _ (Memory.msbField_lt _ _ _) h)
  · obtain ⟨t, ht⟩ := rbMsb_short hs h
    exact meets_of_raise ht (by decide)

theorem State.Sound.advance {s : State} {n : Nat} (hs : s.Sound) (h : s.hasBits n) :
    ({ s with cur := s.cur + n } : State).Sound :=
  { hs with cursor := h }

/-- A descent from a node ends at a symbol of the alphabet, or on a fault (41_huffman.md R156, R157, R160). -/
theorem descend_meets {n : Nat} {tree : Tree} {s : State} {Q : Nat → State → Prop} (hne : tree ≠ .none)
    (hb : tree.symbolsBelow n = true) (hs : s.cur ≤ 8 * s.inLen)
    (hq : ∀ sym l, sym < n → s.hasBits l → Q sym { s with cur := s.cur + l }) : Meets tree.descend s Q := by
  induction tree generalizing s with
  | none => exact absurd rfl hne
  | node x y v ihx ihy =>
    simp only [Tree.symbolsBelow, Bool.and_eq_true] at hb
    obtain ⟨⟨hx, hy⟩, hv⟩ := hb
    by_cases hi : x ≠ .none ∨ y ≠ .none
    · by_cases h1 : s.hasBits 1
      · have hq' : ∀ sym l, sym < n → ({ s with cur := s.cur + 1 } : State).hasBits l →
            Q sym { s with cur := s.cur + 1 + l } := fun sym l hsym hl => by
          have := hq sym (1 + l) hsym (by simp only [State.hasBits] at *; omega)
          rwa [← Nat.add_assoc] at this
        by_cases hbit : s.input.bit s.cur = 1
        · by_cases hn : y = .none
          · exact meets_of_raise (by rw [Tree.descend_inner hi h1, if_pos (by rw [if_pos hbit, hn])])
              (c := .malformedHuffmanTable) (by decide)
          · refine meets_of_eq ?_ (ihy (s := { s with cur := s.cur + 1 }) hn hy h1 hq')
            rw [Tree.descend_inner hi h1, if_neg (by rwa [if_pos hbit]), if_pos hbit]
        · by_cases hn : x = .none
          · exact meets_of_raise (by rw [Tree.descend_inner hi h1, if_pos (by rw [if_neg hbit, hn])])
              (c := .malformedHuffmanTable) (by decide)
          · refine meets_of_eq ?_ (ihx (s := { s with cur := s.cur + 1 }) hn hx h1 hq')
            rw [Tree.descend_inner hi h1, if_neg (by rwa [if_neg hbit]), if_neg hbit]
      · exact meets_of_raise (Tree.descend_short hi h1) (by decide)
    · push Not at hi
      obtain ⟨rfl, rfl⟩ := hi
      cases v with
      | none => exact meets_of_raise (Tree.descend_empty s) (by decide)
      | some v => exact meets_of_ok (Tree.descend_leaf v s) (hq v 0 (by simpa using hv) hs)

theorem Tree.built_ne_none {n : Nat} {tree : Tree} (h : tree.built n = true) : tree ≠ .none := by
  rintro rfl
  cases h

theorem Tree.symbolsBelow_of_built {n : Nat} {tree : Tree} (h : tree.built n = true) :
    tree.symbolsBelow n = true := by
  match tree, h with
  | .node x y Option.none, h => simpa [Tree.built, Tree.symbolsBelow] using h

/-- HT.DECODE of a built tree (41_huffman.md R156). -/
theorem htDecode_meets {n : Nat} {t : TreeSel} {s : State} {Q : Nat → State → Prop}
    (hb : (s.tree t).built n = true) (hs : s.cur ≤ 8 * s.inLen)
    (hq : ∀ sym l, sym < n → s.hasBits l → Q sym { s with cur := s.cur + l }) : Meets (htDecode t) s Q :=
  meets_of_eq (htDecode_apply t s) (descend_meets (Tree.built_ne_none hb) (Tree.symbolsBelow_of_built hb) hs hq)

theorem countLengths_length (lengths : List Nat) : (countLengths lengths).length = maxBits + 1 := by
  rw [countLengths]
  refine List.foldlRecOn (motive := fun counts : List Nat => counts.length = maxBits + 1) lengths _ (by simp) ?_
  intro counts hc l _
  split
  · exact hc
  · simpa using hc

theorem assignCodes_length (lengths : List Nat) (sym : Nat) (nextCode : List Nat) (tree : Tree) :
    (assignCodes lengths sym nextCode tree).1.length = nextCode.length := by
  induction lengths generalizing sym nextCode tree with
  | nil => rfl
  | cons l ls ih =>
    rw [assignCodes]
    split
    · exact ih _ _ _
    · rw [ih, List.length_set]

/-- HT.BUILD writes the builder's registers, at their sizes, and one tree of the alphabet, or it raises
MalformedHuffmanTable (41_huffman.md R150, R153). -/
theorem htBuild_meets {n : Nat} {t : TreeSel} {s : State} {Q : Unit → State → Prop}
    (hlen : (s.lengthsOf t).length ≤ n)
    (hq : ∀ counts codes code tree, counts.length = maxBits + 1 ∧ codes.length = maxBits + 1 →
      tree.built n = true →
      Q () (State.setTree { s with blCount := counts, nextCode := codes, code := code } t tree)) :
    Meets (htBuild t) s Q := by
  by_cases h : overSubscribed (countLengths (s.lengthsOf t)) = true
  · exact meets_of_raise (htBuild_over h) (by decide)
  · have hcodes := assignCodes_length (s.lengthsOf t) 0 (firstCodes (countLengths (s.lengthsOf t))) emptyRoot
    rw [firstCodes, List.length_map, List.length_range, ← firstCodes] at hcodes
    exact meets_of_ok (htBuild_ok (Bool.not_eq_true _ ▸ h)) (hq (countLengths (s.lengthsOf t)) _ _ (builtTree (s.lengthsOf t))
      ⟨countLengths_length _, hcodes⟩ (assignCodes_built _ _ _ (by omega) rfl))

/-! ### Writing `OUT` and the code-length tables -/

theorem State.Sound.append {s : State} (hs : s.Sound) (b : Byte) : (s.append b).Sound :=
  { hs with
    outForm := ⟨Memory.write_wf _ _ _ hs.outForm.1,
      Memory.write_within _ _ hs.outForm.2 (Nat.le_succ _) (Nat.lt_succ_self _)⟩ }

/-- Appending bytes writes `OUT` only, and keeps it in form (20_memory.md R73). -/
theorem State.Sound.appendAll {s : State} (hs : s.Sound) (data : List Byte) :
    ∃ out n, s.appendAll data = { s with out := out, outLen := n } ∧
      ({ s with out := out, outLen := n } : State).Sound := by
  induction data generalizing s with
  | nil => exact ⟨s.out, s.outLen, rfl, hs⟩
  | cons b data ih => exact ih (hs.append b)

/-- A table keeps its size and its range when an entry in range is written. -/
theorem Bounded.set {table : List Nat} {size bound v : Nat} (h : Bounded table size bound) (hv : v ≤ bound)
    (i : Nat) : Bounded (table.set i v) size bound where
  length := by rw [List.length_set, h.length]
  entry_le l hl := (List.mem_or_eq_of_mem_set hl).elim (h.entry_le l) fun e => e ▸ hv

theorem Bounded.zeros (size bound : Nat) : Bounded (List.replicate size 0) size bound where
  length := List.length_replicate
  entry_le l hl := by rw [List.eq_of_mem_replicate hl]; exact Nat.zero_le _

/-- Clearing a table from an index on (44_dynamic.md R203). -/
theorem Bounded.clearFrom {table : List Nat} {size bound n : Nat} (h : Bounded table size bound) (hn : n ≤ size) :
    Bounded (table.take n ++ List.replicate (size - n) 0) size bound where
  length := by simp [h.length, hn]
  entry_le l hl := (List.mem_append.mp hl).elim (fun hl => h.entry_le l (List.mem_of_mem_take hl))
    ((Bounded.zeros _ _).entry_le l)

theorem Bounded.getD_le {table : List Nat} {size bound : Nat} (h : Bounded table size bound) (i : Nat) :
    table.getD i 0 ≤ bound := by
  rw [List.getD_eq_getElem?_getD]
  cases hi : table[i]? with
  | none => exact Nat.zero_le _
  | some l => exact h.entry_le l (List.mem_of_getElem? hi)

theorem State.Sound.emitLength {s : State} (hs : s.Sound) {v : Nat} (hv : v ≤ maxBits) :
    (s.emitLength v).Sound := by
  unfold State.emitLength
  split
  · exact { hs with llcl := hs.llcl.set hv _ }
  · exact { hs with dcl := hs.dcl.set hv _ }

theorem State.Sound.emitLengths {s : State} (hs : s.Sound) {v : Nat} (hv : v ≤ maxBits) (n : Nat) :
    (s.emitLengths v n).Sound := by
  induction n generalizing s with
  | zero => exact hs
  | succ n ih => exact ih (hs.emitLength hv)

theorem State.Sound.seqEntry_le {s : State} (hs : s.Sound) (i : Nat) : s.seqEntry i ≤ maxBits := by
  unfold State.seqEntry
  split
  · exact hs.llcl.getD_le i
  · exact hs.dcl.getD_le i

/-! ### Going on after an element -/

/-- Both trees of a dynamic block (44_dynamic.md R204). -/
theorem buildBlockTrees_meets {s : State} (hs : s.Sound) :
    Meets buildBlockTrees s fun _ t => t.Sound ∧ t.fsm = s.fsm ∧ t.err = s.err ∧ t.HasTrees := by
  have hd : (s.dcl.take s.hdist).length ≤ dSize := (List.length_take_le' _ _).trans hs.dcl.length.le
  exact meets_bind <| htBuild_meets hs.llcl.length.le fun _ _ _ _ _ hllt =>
    meets_bind <| htBuild_meets hd fun _ _ _ _ hsizes hdt =>
    meets_modify ⟨{ hs with builder := hsizes }, rfl, rfl, ⟨hllt, fun _ => hdt⟩⟩

/-- The tree of a fixed block (43_fixed.md R181). -/
theorem fixedSetup_meets {s : State} (hs : s.Sound) :
    Meets fixedSetup s fun _ t => t.Sound ∧ t.fsm = s.fsm ∧ t.err = s.err ∧ t.HasTrees := by
  have hfixed : Bounded fixedLengths llSize maxBits := ⟨by decide +kernel, by decide +kernel⟩
  exact meets_modify_bind <| meets_bind <| htBuild_meets hfixed.length.le fun _ _ _ _ hsizes hllt =>
    meets_modify ⟨{ hs with llcl := hfixed, builder := hsizes }, rfl, rfl, ⟨hllt, nofun⟩⟩

/-- The end of a code-length sequence: the next one begins, with a length missing, or the expander is entered
with its trees (44_dynamic.md R201, R203, R204). -/
theorem endSequence_meets {s : State} (h : s.Busy) (hp : s.phase = .codeLengths) :
    Meets (endSequence s.seqTable) s fun _ t => t.InOrder := by
  have hr := h.ready
  rw [hp] at hr
  obtain ⟨hlit, hdist, hclt, -⟩ := hr
  have hs := h.sound
  cases s.seqTable with
  | ll =>
    obtain ⟨-, hhlit, -, -⟩ := hs.headerRanges
    refine meets_modify (State.Busy.inOrder ⟨{ hs with llcl := hs.llcl.clearFrom hhlit }, h.fsm, h.err, h.phase, ?_⟩ ?_ ?_ ?_)
    · show State.ReadyFor _ s.phase
      rw [hp]
      exact ⟨hlit, hdist, hclt, Nat.zero_le _⟩
    · simp [hp]
    · simp [hp]
    · exact fun _ => hdist
  | d =>
    refine meets_bind (meets_mono (buildBlockTrees_meets hs) fun _ t ht => ?_)
    obtain ⟨hsound, hfsm, herr, htrees⟩ := ht
    exact meets_modify (State.Busy.inOrder
      ⟨{ hsound with }, hfsm.trans h.fsm, herr.trans h.err, nofun, htrees⟩ nofun nofun nofun)

/-- The statements between two elements leave the run in order (44_dynamic.md R195, R196, 46_decode_loop.md
R265). -/
theorem settle_meets {s : State} (h : s.Busy) : Meets settle s fun _ t => t.InOrder := by
  have ho := h.not_over
  have hs := h.sound
  cases hp : s.phase
  case idle => exact absurd hp h.phase
  case buildClt =>
    have hr := h.ready
    rw [hp] at hr
    obtain ⟨hlit, hdist⟩ := hr
    refine meets_of_eq (settle_buildClt ho hp) <| meets_bind <| htBuild_meets hs.clcl.length.le
      fun _ _ _ _ hsizes hclt => meets_modify ?_
    exact State.Busy.inOrder ⟨{ hs with builder := hsizes }, h.fsm, h.err, nofun,
      hlit, hdist, hclt, Nat.zero_le _⟩ nofun nofun fun _ => by
        show 0 < s.hlit
        omega
  case codeLengths =>
    refine meets_of_eq (settle_codeLengths ho hp) ?_
    split
    · exact endSequence_meets h hp
    · next hmissing =>
      exact meets_of_ok rfl (h.inOrder (by simp [hp]) (by simp [hp]) fun _ => Nat.lt_of_not_le hmissing)
  case returned =>
    have hfsm : s.leaveBlock.fsm ≠ .fault ∧ s.leaveBlock.fsm ≠ .dispatching := by
      rw [State.leaveBlock_fsm]
      split <;> decide
    exact meets_of_ok (settle_returned ho hp)
      ⟨hfsm.1, h.err, State.running_of_idle { hs with } rfl hfsm.2 ⟨rfl, rfl, rfl⟩⟩
  all_goals
    have hb : s.phase ≠ .buildClt := by simp [hp]
    have hc : s.phase ≠ .codeLengths := by simp [hp]
    have hr : s.phase ≠ .returned := by simp [hp]
    exact meets_of_ok (settle_waiting hb hc hr) (h.inOrder hb hr fun e => absurd e hc)

end Sys2Proof.Machine
end

section
/-! PROOF. Each element of the stream, from what its phase asks for, leaves a block decoder that is ready for what
comes next, or raises a fault of the spec; with that a step keeps the run in order. -/

namespace Sys2Proof.Machine

variable {s : State}

/-! ### The block header -/

theorem rbBit_meets {Q : Nat → State → Prop} (hq : ∀ v, v < 2 → s.hasBits 1 → Q v { s with cur := s.cur + 1 }) :
    Meets rbBit s Q := by
  by_cases h : s.hasBits 1
  · exact meets_of_ok (rbBit_ok h) (hq _ (Memory.bit_lt _ _) h)
  · exact meets_of_raise (rbBit_short h) (by decide)

/-- The header number has three bits (46_decode_loop.md R262). -/
theorem readHeader_meets {Q : Nat → State → Prop}
    (hq : ∀ bits, bits < 8 → s.hasBits 3 → Q bits { s with cur := s.cur + 3 }) : Meets readHeader s Q :=
  meets_bind <| rbBit_meets fun bfinal h1 hb => meets_bind <| rbLsb_meets hb fun btype h2 hb' =>
    meets_of_ok rfl (hq _ (by omega) hb')

theorem State.Sound.enterBlock (hs : s.Sound) (final : Bool) {n : Nat} (hn : n ≤ 3) :
    (s.enterBlock final n).Sound :=
  { hs with headerRanges := ⟨hn, hs.headerRanges.2⟩ }

theorem headerMeaning_meets (hs : s.Sound) (herr : s.err = .none) {bits : Nat} (hbits : bits < 8) :
    Meets (headerMeaning bits) s fun _ t => t.Busy := by
  unfold headerMeaning
  split
  · exact meets_modify ⟨{ hs.enterBlock (headerFinal bits) (Nat.zero_le 3) with }, rfl, herr, nofun, trivial⟩
  · have hentered := hs.enterBlock (headerFinal bits) (show 1 ≤ 3 by decide)
    refine meets_modify_bind <| meets_bind <| meets_mono (fixedSetup_meets hentered) fun _ t ht => ?_
    obtain ⟨hsound, hfsm, herr', htrees⟩ := ht
    exact meets_modify ⟨{ hsound with }, hfsm, herr'.trans herr, nofun, htrees⟩
  · exact meets_modify ⟨{ hs.enterBlock (headerFinal bits) (show 2 ≤ 3 by decide) with }, rfl, herr, nofun, trivial⟩
  · exact meets_modify_bind <| meets_of_raise rfl (by decide)
  · next h0 h1 h2 h3 =>
    have htype : headerType bits = 0 ∨ headerType bits = 1 ∨ headerType bits = 2 ∨ headerType bits = 3 := by
      unfold headerType
      omega
    obtain h | h | h | h := htype
    exacts [(h0 h).elim, (h1 h).elim, (h2 h).elim, (h3 h).elim]

/-! ### The stored body -/

/-- RB.ALIGN goes to a byte boundary inside the input (40_bitreader.md R135). -/
theorem rbAlign_meets {Q : Unit → State → Prop} (hs : s.cur ≤ 8 * s.inLen)
    (hq : ∀ c, c % 8 = 0 → c ≤ 8 * s.inLen → Q () { s with cur := c }) : Meets rbAlign s Q :=
  meets_of_ok (rbAlign_ok s) (hq _ (Nat.mul_mod_left _ 8) (by omega))

/-- RB.BYTES at a byte boundary is not refused, and its bytes are appended (20_memory.md R70, R73). -/
theorem storedData_meets (hs : s.Sound) (halign : s.cur % 8 = 0) (n : Nat) :
    Meets (rbBytes n >>= fun data => modify fun s => s.appendAll data) s fun _ t =>
      t.Sound ∧ t.fsm = s.fsm ∧ t.err = s.err := by
  refine meets_bind ?_
  by_cases hn : s.cur / 8 + n ≤ s.inLen
  · refine meets_of_ok (rbBytes_ok halign hn) (meets_modify ?_)
    have hs' := hs.advance (n := 8 * n) (show s.cur + 8 * n ≤ 8 * s.inLen by omega)
    obtain ⟨out, k, happ, hsound⟩ := hs'.appendAll (s.input.bytes (s.cur / 8) n)
    rw [happ]
    exact ⟨hsound, rfl, rfl⟩
  · exact meets_of_raise (rbBytes_short halign (Nat.lt_of_not_le hn)) (by decide)

/-- The cursor stands on a byte boundary from RB.ALIGN on (42_stored.md R170, decision D19). -/
theorem storedBody_meets (hs : s.Sound) :
    Meets storedBody s fun _ t => t.Sound ∧ t.fsm = s.fsm ∧ t.err = s.err := by
  refine meets_bind <| rbAlign_meets hs.cursor fun c halign hc => ?_
  refine meets_bind <| rbLsb_meets hc fun len _ hlen => meets_modify_bind ?_
  refine meets_bind <| rbLsb_meets hlen fun nlen _ hnlen => meets_modify_bind ?_
  refine meets_get_bind ?_
  split
  · have hread : ({ s with
        cur := c + 16 + 16, len := BitVec.ofNat 16 len, nlen := BitVec.ofNat 16 nlen } : State).Sound :=
      { hs with cursor := hnlen }
    exact storedData_meets hread (show (c + 16 + 16) % 8 = 0 by omega) _
  · exact meets_of_raise rfl (by decide)

/-! ### The dynamic header -/

theorem hlit_meets (h : s.Busy) : Meets (fieldMeaning 0) s fun _ t => t.Busy := by
  have hs := h.sound
  obtain ⟨hbtype, -, hrest⟩ := hs.headerRanges
  refine meets_bind <| meets_bind <| rbLsb_meets hs.cursor fun raw hraw hb => meets_modify <| meets_modify ?_
  exact ⟨{ hs with
    cursor := hb
    headerRanges := ⟨hbtype, show raw + 257 ≤ 288 by omega, hrest⟩ }, h.fsm, h.err, nofun,
    Nat.le_add_left 257 raw⟩

theorem hdist_meets (h : s.Busy) (hr : s.ReadyFor .hdist) : Meets (fieldMeaning 5) s fun _ t => t.Busy := by
  have hs := h.sound
  obtain ⟨hbtype, hhlit, -, hhclen⟩ := hs.headerRanges
  refine meets_bind <| meets_bind <| rbLsb_meets hs.cursor fun raw hraw hb => meets_modify <| meets_modify ?_
  exact ⟨{ hs with
    cursor := hb
    headerRanges := ⟨hbtype, hhlit, show raw + 1 ≤ 32 by omega, hhclen⟩ }, h.fsm, h.err, nofun,
    hr, Nat.le_add_left 1 raw⟩

theorem hclen_meets (h : s.Busy) (hr : s.ReadyFor .hclen) : Meets (fieldMeaning 10) s fun _ t => t.Busy := by
  have hs := h.sound
  obtain ⟨hhlit, hhdist⟩ := hr
  obtain ⟨hbtype, rlit, rdist, -⟩ := hs.headerRanges
  refine meets_bind <| meets_bind <| rbLsb_meets hs.cursor fun raw hraw hb => meets_modify <| meets_modify ?_
  exact ⟨{ hs with
    cursor := hb
    headerRanges := ⟨hbtype, rlit, rdist, show raw + 4 ≤ 19 by omega⟩ }, h.fsm, h.err, nofun,
    hhlit, hhdist, Nat.le_add_left 4 raw⟩

theorem readClclEntries_meets (hs : s.Sound) (places : List Nat) :
    Meets (readClclEntries places) s fun _ t =>
      ∃ c table, t = { s with cur := c, clcl := table } ∧ t.Sound := by
  induction places generalizing s with
  | nil => exact meets_of_ok rfl ⟨s.cur, s.clcl, rfl, hs⟩
  | cons place places ih =>
    refine meets_bind <| rbLsb_meets hs.cursor fun l hl hb => meets_modify_bind ?_
    have hs' : ({ s with cur := s.cur + 3, clcl := s.clcl.set place l } : State).Sound :=
      { hs with cursor := hb, clcl := hs.clcl.set (by omega) place }
    exact ih hs'

theorem clcl_meets (h : s.Busy) (hr : s.ReadyFor .clcl) :
    Meets (elementMeaning ⟨.cll, 0⟩) s fun _ t => t.Busy := by
  have hs := h.sound
  obtain ⟨hhlit, hhdist, -⟩ := hr
  have hcleared : ({ s with clcl := List.replicate clSize 0 } : State).Sound :=
    { hs with clcl := .zeros clSize 7 }
  refine meets_bind <| meets_modify_bind <| meets_get_bind <|
    meets_mono (readClclEntries_meets hcleared _) fun _ t ht => ?_
  obtain ⟨c, table, rfl, hsound⟩ := ht
  exact meets_modify ⟨{ hsound with }, h.fsm, h.err, nofun, hhlit, hhdist⟩

/-! ### Code-length symbols -/

/-- A run leaves the sequence at most complete (44_dynamic.md R202). -/
theorem emitRun_meets (hs : s.Sound) {v : Nat} (hv : v ≤ maxBits) :
    Meets (emitRun v) s fun _ t => ∃ i ll d, t = { s with cli := i, llcl := ll, dcl := d } ∧ t.Sound ∧
      i ≤ s.seqLen s.seqTable := by
  by_cases hfits : s.cli + s.rep ≤ s.seqLen s.seqTable
  · exact meets_of_ok (emitRun_ok hfits)
      ⟨_, _, _, State.emitLengths_frame v s.rep s, hs.emitLengths hv s.rep, hfits⟩
  · exact meets_of_raise (emitRun_over (Nat.lt_of_not_le hfits)) (by decide)

/-- The extra bits of a run, and the run. -/
theorem readRun_meets (h : s.Busy) (hr : s.ReadyFor .codeLengths) (hp : s.phase = .codeLengths)
    {n v : Nat} (repOf : Nat → Nat) (hv : v ≤ maxBits) :
    Meets (rbLsb n >>= fun raw => (modify fun s => { s with rep := repOf raw } : M PUnit) >>= fun _ => emitRun v) s
      fun _ t => t.Busy := by
  have hs := h.sound
  obtain ⟨hhlit, hhdist, hclt, -⟩ := hr
  refine meets_bind <| rbLsb_meets hs.cursor fun raw _ hb => meets_modify_bind ?_
  have hs' : ({ s with cur := s.cur + n, rep := repOf raw } : State).Sound := { hs with cursor := hb }
  refine meets_mono (emitRun_meets hs' hv) fun _ t ht => ?_
  obtain ⟨i, ll, d, rfl, hsound, hi⟩ := ht
  refine ⟨hsound, h.fsm, h.err, h.phase, ?_⟩
  show State.ReadyFor _ s.phase
  rw [hp]
  exact ⟨hhlit, hhdist, hclt, hi⟩

theorem codeLengthSymbol_meets (h : s.Busy) (hp : s.phase = .codeLengths)
    (hmissing : s.cli < s.seqLen s.seqTable) (sym : Nat) :
    Meets (codeLengthSymbol sym) s fun _ t => t.Busy := by
  have hr : s.ReadyFor .codeLengths := hp ▸ h.ready
  unfold codeLengthSymbol
  split
  · next hsym =>
    obtain ⟨hhlit, hhdist, hclt, -⟩ := hr
    refine meets_of_ok (literalLength_apply sym s) ⟨h.sound.emitLength hsym, ?_, ?_, ?_, ?_⟩
    · exact (State.emitLength_fsm s sym).trans h.fsm
    · exact (State.emitLength_err s sym).trans h.err
    · rw [State.emitLength_phase]
      exact h.phase
    · rw [State.emitLength_phase, hp]
      simp only [State.ReadyFor, State.seqLen, State.emitLength_hlit, State.emitLength_hdist,
        State.emitLength_clt, State.emitLength_cli, State.emitLength_seqTable]
      exact ⟨hhlit, hhdist, hclt, hmissing⟩
  · split
    · refine meets_get_bind ?_
      split
      · exact meets_of_raise rfl (by decide)
      · exact readRun_meets h hr hp rep16Of (h.sound.seqEntry_le _)
    · split
      · exact readRun_meets h hr hp zero17Of (Nat.zero_le _)
      · exact readRun_meets h hr hp zero18Of (Nat.zero_le _)

/-! ### The expander -/

/-- `LENGTH` of a symbol with extra bits is in 3..258 (45_lz77.md R224, R227). -/
theorem longLength_range {sym extra : Nat} (lo : 265 ≤ sym) (hi : sym ≤ 284) (he : extra < 2 ^ lengthEbits sym) :
    3 ≤ longLength sym (lengthEbits sym) extra ∧ longLength sym (lengthEbits sym) extra ≤ 258 := by
  interval_cases sym <;> simp [longLength, lengthEbits] at he ⊢ <;> omega

/-- A length symbol leaves a length of the range (45_lz77.md R223 to R225). -/
theorem lengthSymbol_meets (hs : s.Sound) {sym : Nat} (lo : 257 ≤ sym) (hi : sym ≤ 285) :
    Meets (lengthSymbol sym) s fun _ t =>
      ∃ c e x n, t = { s with cur := c, ebits := e, extra := x, length := n } ∧ t.Sound ∧ 3 ≤ n ∧ n ≤ 258 := by
  unfold lengthSymbol
  split
  · have : 3 ≤ shortLength sym ∧ shortLength sym ≤ 258 := by unfold shortLength; omega
    exact meets_of_ok (shortLengthSymbol_apply sym s) ⟨s.cur, s.ebits, s.extra, _, rfl, { hs with }, this⟩
  · split
    · exact meets_of_ok (longestLengthSymbol_apply s)
        ⟨s.cur, s.ebits, s.extra, _, rfl, { hs with }, by decide⟩
    · have hs' : ({ s with ebits := lengthEbits sym } : State).Sound := { hs with }
      refine meets_modify_bind <| meets_bind <| rbLsb_meets hs'.cursor fun extra he hb => meets_modify ?_
      exact ⟨_, _, _, _, rfl, { hs with cursor := hb }, longLength_range (by omega) (by omega) he⟩

theorem literalLengthMeaning_meets (h : s.Busy) (hp : s.phase = .expand) (sym : Nat) :
    Meets (literalLengthMeaning sym) s fun _ t => t.Busy := by
  have hs := h.sound
  have htrees : s.ReadyFor .expand := hp ▸ h.ready
  unfold literalLengthMeaning
  split
  · refine meets_of_ok (literal_apply sym s) ⟨hs.append _, h.fsm, h.err, h.phase, ?_⟩
    show State.ReadyFor _ s.phase
    rw [hp]
    exact htrees
  · split
    · exact meets_modify ⟨{ hs with }, h.fsm, h.err, nofun, trivial⟩
    · split
      · refine meets_bind <| meets_mono (lengthSymbol_meets hs (by omega) (by omega)) fun _ t ht => ?_
        obtain ⟨c, e, x, n, rfl, hsound, hn⟩ := ht
        exact meets_modify ⟨{ hsound with }, h.fsm, h.err, nofun, htrees, hn⟩
      · exact meets_of_raise rfl (by decide)

/-- A distance code comes from `DT`, or is five raw bits (45_lz77.md R228, 43_fixed.md R182). -/
theorem distFetch_meets {Q : Nat → State → Prop} (hs : s.Sound) (htrees : s.HasTrees)
    (hq : ∀ code l, s.hasBits l → Q code { s with cur := s.cur + l }) : Meets distFetch s Q := by
  obtain ⟨-, hdtBuilt⟩ := htrees
  refine meets_get_bind ?_
  split
  · next hdt => exact htDecode_meets (hdtBuilt hdt) hs.cursor fun code l _ hb => hq code l hb
  · split
    · exact rbLsb_meets hs.cursor fun code _ hb => hq code 5 hb
    · exact rbMsb_meets hs.cursor fun code _ hb => hq code 5 hb

/-- No distance is 0 (45_lz77.md R229, R230). -/
theorem distanceCode_meets (hs : s.Sound) (code : Nat) :
    Meets (distanceCode code) s fun _ t =>
      ∃ c e x d, t = { s with cur := c, ebits := e, extra := x, distance := d } ∧ t.Sound ∧ 1 ≤ d := by
  unfold distanceCode
  split
  · exact meets_of_raise rfl (by decide)
  · split
    · exact meets_of_ok (shortDistanceCode_apply code s)
        ⟨s.cur, s.ebits, s.extra, _, rfl, { hs with }, Nat.le_add_left 1 code⟩
    · have hs' : ({ s with ebits := distanceEbits code } : State).Sound := { hs with }
      refine meets_modify_bind <| meets_bind <| rbLsb_meets hs'.cursor fun extra _ hb => meets_modify ?_
      exact ⟨_, _, _, _, rfl, { hs with cursor := hb }, by unfold longDistance; omega⟩

/-- A copy inside the window runs to its end, and `OUT` stays in form (45_lz77.md R234). -/
theorem copyBytes_meets (hs : s.Sound) (h1 : 1 ≤ s.distance) (h2 : s.distance ≤ s.outLen) (n : Nat) :
    Meets (copyBytes n) s fun _ t => ∃ out k, t = { s with out := out, outLen := k } ∧ t.Sound := by
  induction n generalizing s with
  | zero => exact meets_of_ok rfl ⟨s.out, s.outLen, rfl, hs⟩
  | succ n ih =>
    exact meets_bind <| meets_of_ok (copyByte_ok h1 h2) (ih (hs.append _) h1 (Nat.le_succ_of_le h2))

/-- The window check stands before the copy, so the copy is never refused (45_lz77.md R233, R237). -/
theorem thenCopy_meets (h : s.Busy) (hp : s.phase = .distance) (code : Nat) :
    Meets (thenCopy (distanceCode code)) s fun _ t => t.Busy := by
  have hr : s.ReadyFor .distance := hp ▸ h.ready
  obtain ⟨htrees, -⟩ := hr
  refine meets_bind <| meets_mono (distanceCode_meets h.sound code) fun _ t ht => ?_
  obtain ⟨c, e, x, d, rfl, hsound, hd⟩ := ht
  by_cases hwindow : d ≤ s.outLen
  · refine meets_bind <| meets_of_ok (windowCheck_ok hwindow) <| meets_bind <| meets_get_bind <|
      meets_mono (copyBytes_meets hsound hd hwindow _) fun _ t ht => ?_
    obtain ⟨out, k, rfl, hcopied⟩ := ht
    exact meets_modify ⟨{ hcopied with }, h.fsm, h.err, nofun, htrees⟩
  · exact meets_bind <| meets_of_raise (windowCheck_far (Nat.lt_of_not_le hwindow)) (by decide)

/-! ### A whole step -/

/-- The groups that are read without looking at a bit of the stream. -/
theorem fetchElement_group {w : ElementWord} (h : (s.phase, w) ∈ [(Phase.storedBody, ElementWord.mk .st 0),
    (.hlit, ⟨.dh, 0⟩), (.hdist, ⟨.dh, 5⟩), (.hclen, ⟨.dh, 10⟩), (.clcl, ⟨.cll, 0⟩)]) :
    fetchElement s = .ok w s := by
  simp only [List.mem_cons, Prod.mk.injEq, List.not_mem_nil, or_false] at h
  obtain ⟨hp, rfl⟩ | ⟨hp, rfl⟩ | ⟨hp, rfl⟩ | ⟨hp, rfl⟩ | ⟨hp, rfl⟩ := h <;>
    simp only [fetchElement, M.get_bind, hp, M.pure_apply]

theorem State.InOrder.busy (h : s.InOrder) (hf : s.fsm = .dispatching) : s.Busy :=
  ⟨h.running.sound, hf, h.err, fun hp => h.running.phaseByFsm.mp hp hf, h.running.readyFor⟩

/-- A block decoder fetches an element and runs it. -/
theorem dispatching_meets (h : s.InOrder) (hf : s.fsm = .dispatching) :
    Meets fetchElement s fun w t => Meets (elementMeaning w) t fun _ u => u.Busy := by
  have hb := h.busy hf
  have hs := hb.sound
  have hr := hb.ready
  cases hp : s.phase <;> rw [hp] at hr
  case idle => exact absurd hp hb.phase
  case buildClt => exact absurd hp h.running.phaseFetches.1
  case returned => exact absurd hp h.running.phaseFetches.2
  case storedBody =>
    refine meets_of_ok (fetchElement_group (w := ⟨.st, 0⟩) (by rw [hp]; decide)) <| meets_bind <|
      meets_mono (storedBody_meets hs) fun _ t ht => ?_
    obtain ⟨hsound, hfsm, herr⟩ := ht
    exact meets_modify ⟨{ hsound with }, hfsm.trans hb.fsm, herr.trans hb.err, nofun, trivial⟩
  case hlit => exact meets_of_ok (fetchElement_group (w := ⟨.dh, 0⟩) (by rw [hp]; decide)) (hlit_meets hb)
  case hdist => exact meets_of_ok (fetchElement_group (w := ⟨.dh, 5⟩) (by rw [hp]; decide)) (hdist_meets hb hr)
  case hclen => exact meets_of_ok (fetchElement_group (w := ⟨.dh, 10⟩) (by rw [hp]; decide)) (hclen_meets hb hr)
  case clcl => exact meets_of_ok (fetchElement_group (w := ⟨.cll, 0⟩) (by rw [hp]; decide)) (clcl_meets hb hr)
  case codeLengths =>
    obtain ⟨-, -, hclt, -⟩ := hr
    obtain ⟨-, hmissing⟩ := h.running.codeLengths hp
    refine meets_of_eq (fetchElement_codeLengths hp) <| meets_bind <|
      htDecode_meets hclt hs.cursor fun sym l hsym hbits => meets_modify_bind <| meets_of_ok rfl ?_
    have hfetched : ({ s with cur := s.cur + l, clsym := sym } : State).Busy :=
      ⟨{ hs with cursor := hbits }, hb.fsm, hb.err, hb.phase, hb.ready⟩
    refine meets_of_eq ?_ (codeLengthSymbol_meets hfetched hp hmissing sym)
    rw [elementMeaning, if_pos hsym]
  case expand =>
    obtain ⟨hllt, -⟩ := hr
    refine meets_of_eq (fetchElement_expand hp) <| meets_bind <|
      htDecode_meets hllt hs.cursor fun sym l _ hbits => meets_modify_bind <| meets_of_ok rfl ?_
    have hfetched : ({ s with cur := s.cur + l, sym := sym } : State).Busy :=
      ⟨{ hs with cursor := hbits }, hb.fsm, hb.err, hb.phase, hb.ready⟩
    exact literalLengthMeaning_meets hfetched hp sym
  case distance =>
    obtain ⟨htrees, -⟩ := hr
    refine meets_of_eq (fetchElement_distance hp) <| meets_bind <|
      distFetch_meets hs htrees fun code l hbits => meets_modify_bind <| meets_of_ok rfl ?_
    have hfetched : ({ s with cur := s.cur + l, dcode := code } : State).Busy :=
      ⟨{ hs with cursor := hbits }, hb.fsm, hb.err, hb.phase, hb.ready⟩
    exact thenCopy_meets hfetched hp code

/-- A run that is not over fetches an element and runs it. -/
theorem fetch_meets (h : s.InOrder) (hport : s.port = none) (hover : s.over = false) :
    Meets fetch s fun w t => Meets (elementMeaning w) t fun _ u => u.Busy := by
  cases hf : s.fsm with
  | readingHeader =>
    have hs := h.running.sound
    exact meets_of_eq (fetch_readingHeader hport hf) <| meets_bind <| readHeader_meets fun bits hbits hb =>
      meets_of_ok rfl (headerMeaning_meets (hs.advance hb) h.err hbits)
  | dispatching => exact meets_of_eq (fetch_dispatching hport hf) (dispatching_meets h hf)
  | done => exact absurd hover (by simp [State.over, hf])
  | fault => exact absurd hover (by simp [State.over, hf])

theorem element_meets (h : s.InOrder) (hport : s.port = none) (hover : s.over = false) :
    Meets element s fun _ t => t.InOrder :=
  meets_bind <| meets_mono (fetch_meets h hport hover) fun _ _ hw =>
    meets_bind <| meets_mono hw fun _ _ hu => settle_meets hu

/-- A run that is over hands its result to the host and changes nothing else (46_decode_loop.md R266). -/
theorem element_over (hport : s.port = none) (hover : s.over = true) :
    element s = .ok () { s with result := s.hostResult } := by
  rw [element, M.bind_of_ok _ (fetch_over hport hover)]
  exact settle_over hover

/-! ### The obligations -/

theorem State.InOrder.inv (h : s.InOrder) (hport : s.port = none) : s.Inv :=
  ⟨hport, by simp [h.err, h.fsm], fun _ => h.running⟩

theorem State.Inv.inOrder (h : s.Inv) (hf : s.fsm ≠ .fault) : s.InOrder :=
  ⟨hf, not_not.mp fun he => hf (h.errByFsm.mp he), h.running hf⟩

/-- A fault entry meets the invariant, whatever the faulted state holds (60_exceptions.md R292). -/
theorem State.takeFault_inv {c : Cause} (hc : c ≠ .none) (hport : s.port = none) : (s.takeFault c).Inv :=
  ⟨hport, by simp [hc], fun h => absurd rfl h⟩

/-- Handing over the result is no change the invariant sees. -/
theorem State.Inv.withResult (h : s.Inv) (r : Option RunResult) : ({ s with result := r } : State).Inv :=
  ⟨h.portEmpty, h.errByFsm, fun hf => { h.running hf with }⟩

/-- Settles O51: a finished run only hands over its result; any other step is an element that leaves the run in
order or raises a fault of the spec. -/
theorem everyStepKeepsTheRunInOrder : Obligations.EveryStepKeepsTheRunInOrder := by
  intro s h
  have hport := h.portEmpty
  have hgrows := element_growsTo hport
  rw [step_eq_perform hport]
  cases hover : s.over with
  | true => exact ⟨_, perform_of_ok (element_over hport hover), h.withResult _⟩
  | false =>
    have hfsm : s.fsm ≠ .fault := fun hf => by simp [State.over, hf] at hover
    have hmeets := element_meets (h.inOrder hfsm) hport hover
    cases he : element s with
    | ok _ t =>
      rw [endState_of_ok he] at hgrows
      exact ⟨t, perform_of_ok he, (hmeets.ok () t he).inv (hgrows.port hport)⟩
    | error e t =>
      rw [endState_of_error he] at hgrows
      obtain ⟨c, rfl, hc⟩ := hmeets.fault e t he
      exact ⟨_, perform_of_raise he, State.takeFault_inv hc (hgrows.port hport)⟩

/-- The launch values are in range, the tables too (10_state.md R41, log 3). -/
theorem State.reset_sound : State.reset.Sound where
  inputForm := ⟨rfl, rfl⟩
  outForm := ⟨rfl, rfl⟩
  cursor := Nat.zero_le _
  clcl := .zeros clSize 7
  llcl := .zeros llSize maxBits
  dcl := .zeros dSize maxBits
  builder := ⟨List.length_replicate, List.length_replicate⟩
  headerRanges := ⟨Nat.zero_le _, Nat.zero_le _, Nat.zero_le _, Nat.zero_le _⟩

/-- Settles O50: the launch values are in range and no block decoder runs. -/
theorem resetIsInOrder : Obligations.ResetIsInOrder :=
  State.InOrder.inv ⟨nofun, rfl, State.running_of_idle State.reset_sound rfl nofun ⟨rfl, rfl, rfl⟩⟩ rfl

/-- Settles O1: each launch value as `State.reset` is defined. -/
theorem resetHoldsTheLaunchValues : Obligations.ResetHoldsTheLaunchValues :=
  ⟨rfl, rfl, rfl, rfl, rfl, rfl, rfl, rfl, rfl⟩

end Sys2Proof.Machine
end

section
/-! PROOF. Encoding: decoding and encoding are inverse to each other (30_encoding.md R110). An instruction
decodes from its own word exactly when it is well formed, and a word that decodes is the word of what it
decodes to; both directions of the agreement follow. -/

namespace Sys2Proof

open Machine

/-! ### The byte sequence of LAUNCH as an operand -/

theorem natToBytesFuel_zero (fuel : Nat) : natToBytesFuel fuel 0 = [] := by
  cases fuel <;> simp [natToBytesFuel]

/-- With at least as much fuel as the number, its digits stand for it again. -/
theorem bytesToNat_natToBytesFuel {fuel n : Nat} (h : n ≤ fuel) : bytesToNat (natToBytesFuel fuel n) = n := by
  induction fuel generalizing n with
  | zero =>
    obtain rfl : n = 0 := by omega
    rfl
  | succ fuel ih =>
    rw [natToBytesFuel]
    split
    · next hn => exact hn.symm
    · next hn =>
      have hdigit : (n - 1) % 256 < 2 ^ 8 := Nat.mod_lt _ (by decide)
      rw [bytesToNat, ih (by omega), BitVec.toNat_ofNat, Nat.mod_eq_of_lt hdigit]
      omega

/-- With at least as much fuel as a sequence's number, the digits of that number are the sequence. -/
theorem natToBytesFuel_bytesToNat {fuel : Nat} {bytes : List Byte} (h : bytesToNat bytes ≤ fuel) :
    natToBytesFuel fuel (bytesToNat bytes) = bytes := by
  induction bytes generalizing fuel with
  | nil => exact natToBytesFuel_zero fuel
  | cons b bs ih =>
    rw [bytesToNat] at h ⊢
    obtain ⟨fuel, rfl⟩ : ∃ f, fuel = f + 1 := ⟨fuel - 1, by omega⟩
    have hb : b.toNat < 256 := b.isLt
    have hlow : (1 + b.toNat + 256 * bytesToNat bs - 1) % 256 = b.toNat := by omega
    have hhigh : (1 + b.toNat + 256 * bytesToNat bs - 1) / 256 = bytesToNat bs := by omega
    rw [natToBytesFuel, if_neg (by omega), hlow, hhigh, ih (by omega), BitVec.ofNat_toNat, BitVec.setWidth_eq]

@[simp] theorem bytesToNat_natToBytes (n : Nat) : bytesToNat (natToBytes n) = n :=
  bytesToNat_natToBytesFuel le_rfl

@[simp] theorem natToBytes_bytesToNat (bytes : List Byte) : natToBytes (bytesToNat bytes) = bytes :=
  natToBytesFuel_bytesToNat le_rfl

/-! ### The operands of the other operations -/

theorem TreeSel.ofNumber_eq_some {n : Nat} {t : TreeSel} (h : TreeSel.ofNumber n = some t) : t.number = n := by
  unfold TreeSel.ofNumber at h
  split at h <;> cases h <;> rfl

theorem SeqTable.ofNumber_eq_some {n : Nat} {t : SeqTable} (h : SeqTable.ofNumber n = some t) : t.number = n := by
  unfold SeqTable.ofNumber at h
  split at h <;> cases h <;> rfl

theorem decodeNullary_eq_ok {i j : Instr} {n : Nat} (h : decodeNullary i n = .ok j) : n = 0 ∧ j = i := by
  unfold decodeNullary at h
  split at h
  · next hn => cases h; exact ⟨hn, rfl⟩
  · cases h

theorem decodeTreeOp_eq_ok {make : TreeSel → Instr} {n : Nat} {i : Instr} (h : decodeTreeOp make n = .ok i) :
    ∃ t : TreeSel, n = t.number ∧ i = make t := by
  unfold decodeTreeOp at h
  split at h
  · next t ht => cases h; exact ⟨t, (TreeSel.ofNumber_eq_some ht).symm, rfl⟩
  · cases h

theorem decodeClseq_eq_ok {n : Nat} {i : Instr} (h : decodeClseq n = .ok i) :
    ∃ t : SeqTable, n = t.number ∧ i = .clseq t := by
  unfold decodeClseq at h
  split at h
  · next t ht => cases h; exact ⟨t, (SeqTable.ofNumber_eq_some ht).symm, rfl⟩
  · cases h

theorem decodeRbBytes_eq_ok_iff {n : Nat} {i : Instr} : decodeRbBytes n = .ok i ↔ n ≤ 65535 ∧ i = .rbBytes n := by
  unfold decodeRbBytes
  split
  · next hn => simp [hn, eq_comm]
  · next hn => simp [hn]

/-! ### From an instruction to its word and back -/

/-- The bound on the operand of RB.BYTES (20_memory.md R71) is the only reason an instruction's own word does not
decode to it. -/
theorem decode_encode_iff (i : Instr) : decode (encode i) = .ok i ↔ i.wellFormed = true := by
  cases i with
  | rbBytes n =>
    have hd : decode (encode (.rbBytes n)) = decodeRbBytes n := by
      simp [encode, decode, decodeOperation, Nat.add_mul_mod_self_left, Nat.add_mul_div_left]
    simp [hd, decodeRbBytes_eq_ok_iff, Instr.wellFormed]
  | rbMsb operand | rbLsb operand | launch operand =>
    simp [encode, decode, decodeOperation, Nat.add_mul_mod_self_left, Nat.add_mul_div_left, Instr.wellFormed]
  | blkStored final | blkFixed final | blkDynamic final | blkReserved final =>
    cases final <;> exact iff_of_true rfl rfl
  | htBuild t | htDecode t | clseq t => cases t <;> exact iff_of_true rfl rfl
  | _ => exact iff_of_true rfl rfl

/-! ### From a word to its instruction and back -/

/-- A header number is `BFINAL + 2*BTYPE` (30_encoding.md R91). -/
theorem headerNumber_eq (bits : Nat) : (headerFinal bits).toNat + 2 * headerType bits = bits := by
  have hfinal : (headerFinal bits).toNat = bits % 2 := by
    obtain h | h := Nat.mod_two_eq_zero_or_one bits <;> simp [headerFinal, h]
  rw [hfinal, headerType, Nat.mod_add_div]

theorem encode_of_decodeHeader {bits : Nat} {i : Instr} (h : decodeHeader bits = .ok i) :
    encode i = ⟨.bh, bits⟩ := by
  have hbits := headerNumber_eq bits
  unfold decodeHeader at h
  split at h
  case h_5 => cases h
  all_goals
    next htype =>
      rw [htype] at hbits
      cases h
      exact congrArg (ElementWord.mk .bh) hbits

theorem encode_of_decodeField {bits : Nat} {i : Instr} (h : decodeField bits = .ok i) : encode i = ⟨.dh, bits⟩ := by
  unfold decodeField at h
  split at h <;> cases h <;> rfl

/-- An operation's word holds its number in the low byte and its operand above (log 8). -/
theorem encode_of_decodeOperation {number operand : Nat} {i : Instr} (hn : number < 256)
    (h : decodeOperation (number + 256 * operand) = .ok i) : encode i = ⟨.op, number + 256 * operand⟩ := by
  have hlow : (number + 256 * operand) % 256 = number := by omega
  have hhigh : (number + 256 * operand) / 256 = operand := by omega
  simp only [decodeOperation, hlow, hhigh] at h
  split at h
  case h_2 | h_3 => cases h; rfl
  case h_4 => obtain ⟨-, rfl⟩ := decodeRbBytes_eq_ok_iff.mp h; rfl
  case h_6 | h_7 => obtain ⟨t, rfl, rfl⟩ := decodeTreeOp_eq_ok h; rfl
  case h_8 => obtain ⟨t, rfl, rfl⟩ := decodeClseq_eq_ok h; rfl
  case h_11 => cases h; rw [encode, bytesToNat_natToBytes]
  case h_14 => cases h
  all_goals obtain ⟨rfl, rfl⟩ := decodeNullary_eq_ok h; rfl

/-- A group of one row and no selecting bits (formats ST and CLL): its word is 0. -/
theorem eq_of_decodeGroup {bits : Nat} {i j : Instr}
    (h : (if bits = 0 then .ok i else .error DecodeError.noSuchGroup) = Except.ok j) : bits = 0 ∧ j = i := by
  split at h
  · next hbits => cases h; exact ⟨hbits, rfl⟩
  · cases h

/-- A word that decodes is the word of the instruction it decodes to. -/
theorem encode_of_decode {w : ElementWord} {i : Instr} (h : decode w = .ok i) : encode i = w := by
  obtain ⟨format, bits⟩ := w
  cases format with
  | bh => exact encode_of_decodeHeader h
  | st => obtain ⟨rfl, rfl⟩ := eq_of_decodeGroup h; rfl
  | dh => exact encode_of_decodeField h
  | cll => obtain ⟨rfl, rfl⟩ := eq_of_decodeGroup h; rfl
  | cl => exact encode_of_decode_cl h
  | ll => exact encode_of_decode_ll h
  | d => exact encode_of_decode_d h
  | op =>
    rw [← Nat.mod_add_div bits 256] at h ⊢
    exact encode_of_decodeOperation (Nat.mod_lt _ (by decide)) h

/-! ### The obligations -/

/-- Settles O60: a word that decodes is its instruction's word, and so that instruction decodes from its own word,
which exactly the well-formed ones do. -/
theorem decodeAndEncodeAgree : Obligations.DecodeAndEncodeAgree := by
  refine ⟨fun i => (decode_encode_iff i).mpr, fun w i h => ?_⟩
  have hw : encode i = w := encode_of_decode h
  exact ⟨hw, (decode_encode_iff i).mp (hw ▸ h)⟩

/-- Settles O59: each sample word by evaluating the decoder at it. -/
theorem sampleWordsDecode : Obligations.SampleWordsDecode :=
  ⟨rfl, rfl, rfl, rfl, rfl, rfl, rfl, rfl, rfl, rfl, rfl, rfl⟩

end Sys2Proof
end

section
/-! PROOF. The BitReader (40_bitreader.md). A primitive run on its own is its piece of pseudocode with the result
put away; the laws R138 are laws of the fields of the stream: a field splits where its bits do, and its bits are
those of the stream, from either end. -/

namespace Sys2Proof.Machine

variable {s t : State}

/-! ### An operation run on its own -/

theorem perform_returning_of_ok {m : M Nat} {v : Nat} (h : m s = .ok v t) :
    perform (returning m) s = .next { t with opResult := .value v } :=
  perform_of_ok (M.bind_of_ok _ h)

theorem perform_returning_raises {m : M Nat} {c : Cause} (h : m s = .error (.raise c) t) :
    Raises (perform (returning m) s) c :=
  perform_raises (M.bind_of_error _ h)

theorem exec_rbBit (s : State) : exec .rbBit s = perform (returning rbBit) s := rfl

theorem exec_rbMsb (n : Nat) (s : State) : exec (.rbMsb n) s = perform (returning (rbMsb n)) s := rfl

theorem exec_rbLsb (n : Nat) (s : State) : exec (.rbLsb n) s = perform (returning (rbLsb n)) s := rfl

theorem exec_rbBytes (n : Nat) (s : State) : exec (.rbBytes n) s =
    perform (rbBytes n >>= fun data => modify fun s => { s with opResult := .bytes data }) s := rfl

theorem exec_rbAlign (s : State) : exec .rbAlign s =
    perform (rbAlign >>= fun _ => modify fun s => { s with opResult := .nothing }) s := rfl

/-! ### Splitting a field of the stream -/

/-- The first bits of an LSB-first field are its low part (R65). -/
theorem Memory.lsbField_add (m : Memory) (c a b : Nat) :
    m.lsbField c (a + b) = m.lsbField c a + m.lsbField (c + a) b * 2 ^ a := by
  induction a generalizing c with
  | zero => simp
  | succ a ih =>
    rw [Nat.add_right_comm, Memory.lsbField_succ, ih, Memory.lsbField_succ,
      Nat.add_assoc c, Nat.add_comm 1 a, pow_succ]
    ring

/-- The first bits of an MSB-first field are its high part (R66). -/
theorem Memory.msbField_add (m : Memory) (c a b : Nat) :
    m.msbField c (a + b) = m.msbField c a * 2 ^ b + m.msbField (c + a) b := by
  induction a generalizing c with
  | zero => simp
  | succ a ih =>
    rw [Nat.add_right_comm, Memory.msbField_succ, ih, Memory.msbField_succ,
      Nat.add_assoc c, Nat.add_comm 1 a, Nat.add_comm a b, pow_add]
    ring

/-! ### The bits of a field -/

/-- Bit `i` of an LSB-first field is the `i`-th bit consumed (R65). -/
theorem Memory.testBit_lsbField (m : Memory) (c : Nat) {n i : Nat} (hi : i < n) :
    (m.lsbField c n).testBit i = (m.bit (c + i)).testBit 0 := by
  induction n generalizing c i with
  | zero => omega
  | succ n ih =>
    rw [Memory.lsbField_succ]
    cases i with
    | zero => simp [Nat.testBit_zero]
    | succ i =>
      have hb := m.bit_lt c
      rw [Nat.testBit_succ, show (m.bit c + 2 * m.lsbField (c + 1) n) / 2 = m.lsbField (c + 1) n by omega,
        ih _ (by omega), Nat.add_right_comm, Nat.add_assoc c]

/-- Bit `n-1-i` of an MSB-first field is the `i`-th bit consumed (R66). -/
theorem Memory.testBit_msbField (m : Memory) (c : Nat) {n i : Nat} (hi : i < n) :
    (m.msbField c n).testBit (n - 1 - i) = (m.bit (c + i)).testBit 0 := by
  induction n generalizing c i with
  | zero => omega
  | succ n ih =>
    rw [Memory.msbField_succ, Nat.mul_comm, Nat.testBit_two_pow_mul_add _ (m.msbField_lt (c + 1) n)]
    cases i with
    | zero => simp
    | succ i =>
      rw [if_pos (by omega), show n + 1 - 1 - (i + 1) = n - 1 - i by omega, ih _ (by omega),
        Nat.add_right_comm, Nat.add_assoc c]

/-- RB.MSB and RB.LSB of the same bits are reversals of each other (R138 (a)). -/
theorem Memory.testBit_lsbField_reverse (m : Memory) (c : Nat) {n i : Nat} (hi : i < n) :
    (m.lsbField c n).testBit i = (m.msbField c n).testBit (n - 1 - i) :=
  (m.testBit_lsbField c hi).trans (m.testBit_msbField c hi).symm

/-! ### Two reads in a row, and the cursor -/

theorem State.hasBits_left {a b : Nat} (h : s.hasBits (a + b)) : s.hasBits a := by
  simp only [State.hasBits] at *
  omega

theorem State.hasBits_right {a b : Nat} (h : s.hasBits (a + b)) :
    ({ s with cur := s.cur + a } : State).hasBits b := by
  simp only [State.hasBits] at *
  omega

/-- A piece that only grows the state does not move the cursor back. -/
theorem Grows.cur_le {α : Type} {m : M α} {a : α} (hm : Grows m) (h : m s = .ok a t) : s.cur ≤ t.cur := by
  have hg := hm s
  rw [endState_of_ok h] at hg
  exact hg.cur

/-! ### The obligations -/

/-- Settles O14: fields split and reverse as their bits do, and every primitive only grows the state. -/
theorem bitReaderLaws : Obligations.BitReaderLaws := by
  refine ⟨fun n s h => ?_, fun a b s h => ?_, fun a b s h => ?_, fun n s t v data => ?_⟩
  · exact ⟨_, _, _, rbLsb_ok h, rbMsb_ok h, rfl, s.input.lsbField_lt _ n, s.input.msbField_lt _ n,
      fun i hi => s.input.testBit_lsbField_reverse s.cur hi⟩
  · refine ⟨_, _, _, _, rbLsb_ok (State.hasBits_left h), rbLsb_ok (State.hasBits_right h), ?_⟩
    rw [rbLsb_ok h, Memory.lsbField_add, Nat.add_assoc]
  · refine ⟨_, _, _, _, rbMsb_ok (State.hasBits_left h), rbMsb_ok (State.hasBits_right h), ?_⟩
    rw [rbMsb_ok h, Memory.msbField_add, Nat.add_assoc]
  · exact ⟨rbBit_grows.cur_le, (rbMsb_grows n).cur_le, (rbLsb_grows n).cur_le, (rbBytes_grows n).cur_le,
      rbAlign_grows.cur_le⟩

/-- Settles O10: the value is the LSB-first field at the cursor. -/
theorem rbLsbAssemblesFromBitZero : Obligations.RbLsbAssemblesFromBitZero := by
  intro n s hc
  rw [exec_rbLsb]
  refine ⟨fun h => perform_returning_of_ok (rbLsb_ok h), fun h => ?_⟩
  obtain ⟨t, ht⟩ := rbLsb_short hc (Nat.not_le.mpr h)
  exact perform_returning_raises ht

/-- Settles O11: the value is the MSB-first field at the cursor. -/
theorem rbMsbAssemblesFromTheTop : Obligations.RbMsbAssemblesFromTheTop := by
  intro n s hc
  rw [exec_rbMsb]
  refine ⟨fun h => perform_returning_of_ok (rbMsb_ok h), fun h => ?_⟩
  obtain ⟨t, ht⟩ := rbMsb_short hc (Nat.not_le.mpr h)
  exact perform_returning_raises ht

/-- Settles O9: the bit of the stream at the cursor, as the quotient and remainder that pick it out of its byte. -/
theorem rbBitReadsTheCursorBit : Obligations.RbBitReadsTheCursorBit := by
  intro s
  rw [exec_rbBit, ← Memory.bit_eq]
  exact ⟨fun h => perform_returning_of_ok (rbBit_ok h),
    fun h => perform_returning_raises (rbBit_short (by simp only [State.hasBits]; omega))⟩

/-- Settles O12: one clause for each outcome of RB.BYTES. -/
theorem rbBytesTakesWholeBytes : Obligations.RbBytesTakesWholeBytes := by
  intro n s
  rw [exec_rbBytes]
  exact ⟨fun ha h => perform_of_ok (M.bind_of_ok _ (rbBytes_ok ha h)),
    fun ha h => perform_raises (M.bind_of_error _ (rbBytes_short ha h)),
    fun ha => perform_of_refuse (M.bind_of_error _ (rbBytes_unaligned ha))⟩

/-- Settles O13: the cursor rounded up to a multiple of 8, as `8 * IN_LEN` is one. -/
theorem rbAlignGoesToTheNextByte : Obligations.RbAlignGoesToTheNextByte := by
  intro s
  refine ⟨(s.cur + 7) / 8 * 8, ?_, ?_⟩
  · rw [exec_rbAlign]
    exact perform_of_ok (M.bind_of_ok _ (rbAlign_ok s))
  · omega

end Sys2Proof.Machine
end

section
/-! PROOF. HT.BUILD and its codes (41_huffman.md R150 to R154). The Kraft sum over the counts is the one over the
symbols, and its partial sums are the first codes scaled to 15 bits; so every code fits its length, and no code is the
beginning of another. -/

namespace Sys2Proof.Machine

variable {lengths : List Nat} {t : TreeSel} {s : State}

/-! ### The Kraft sum and the first codes -/

theorem kraftSum_eq_sum (blCount : List Nat) :
    kraftSum blCount = ∑ k ∈ Finset.range maxBits, blCount.getD (k + 1) 0 * 2 ^ (maxBits - (k + 1)) := rfl

/-- The sum of R153 over the lengths is the sum over the symbols. -/
theorem kraftSum_countLengths (hl : ∀ l ∈ lengths, l ≤ maxBits) :
    kraftSum (countLengths lengths) = ((lengths.filter fun l => l ≠ 0).map fun l => 2 ^ (maxBits - l)).sum := by
  have hsub : (lengths.filter fun l => l ≠ 0).toFinset ⊆ Finset.Ico (0 + 1) (maxBits + 1) := fun l h => by
    simp only [List.mem_toFinset, List.mem_filter, decide_eq_true_eq] at h
    exact Finset.mem_Ico.mpr ⟨Nat.pos_of_ne_zero h.2, Nat.lt_succ_of_le (hl l h.1)⟩
  rw [kraftSum_eq_sum, Finset.range_eq_Ico,
    Finset.sum_Ico_add' (fun l => (countLengths lengths).getD l 0 * 2 ^ (maxBits - l)),
    Finset.sum_list_map_count, Finset.sum_subset hsub fun l _ h => by
      rw [List.count_eq_zero_of_not_mem (by simpa using h), zero_smul]]
  refine Finset.sum_congr rfl fun l h => ?_
  have h0 : l ≠ 0 := by have := (Finset.mem_Ico.mp h).1; omega
  rw [countLengths_getD hl, if_neg h0, List.count_filter (by simpa using h0), smul_eq_mul]

theorem overSubscribed_countLengths (hl : ∀ l ∈ lengths, l ≤ maxBits) :
    overSubscribed (countLengths lengths) = true ↔
      2 ^ maxBits < ((lengths.filter fun l => l ≠ 0).map fun l => 2 ^ (maxBits - l)).sum := by
  rw [overSubscribed, decide_eq_true_eq, kraftSum_countLengths hl]

theorem firstCode_succ (blCount : List Nat) (l : Nat) :
    firstCode blCount (l + 1) = (firstCode blCount l + blCount.getD l 0) * 2 := by
  rw [firstCode, Nat.shiftLeft_eq, pow_one]

/-- The codes up to a length, scaled to 15 bits, are what the lengths up to it take of the Kraft sum (R152). -/
theorem firstCode_add_count_scaled {blCount : List Nat} (h0 : blCount.getD 0 0 = 0) {l : Nat} (hl : l ≤ maxBits) :
    (firstCode blCount l + blCount.getD l 0) * 2 ^ (maxBits - l) =
      ∑ k ∈ Finset.range l, blCount.getD (k + 1) 0 * 2 ^ (maxBits - (k + 1)) := by
  induction l with
  | zero => rw [h0]; simp [firstCode]
  | succ l ih =>
    rw [Finset.sum_range_succ, ← ih (by omega), firstCode_succ, show maxBits - l = maxBits - (l + 1) + 1 by omega,
      pow_succ]
    ring

/-- The codes of a length fit its bits (R152). -/
theorem firstCode_add_count_le (h : acceptable lengths) {l : Nat} (hl : l ≤ maxBits) :
    firstCode (countLengths lengths) l + (countLengths lengths).getD l 0 ≤ 2 ^ l := by
  have hsum := h.2
  rw [← kraftSum_countLengths h.1, kraftSum_eq_sum] at hsum
  refine Nat.le_of_mul_le_mul_right ?_ (Nat.two_pow_pos (maxBits - l))
  calc (firstCode (countLengths lengths) l + (countLengths lengths).getD l 0) * 2 ^ (maxBits - l)
      = ∑ k ∈ Finset.range l, (countLengths lengths).getD (k + 1) 0 * 2 ^ (maxBits - (k + 1)) :=
        firstCode_add_count_scaled (countLengths_getD h.1 0) hl
    _ ≤ 2 ^ maxBits := (Finset.sum_le_sum_of_subset (Finset.range_mono hl)).trans hsum
    _ = 2 ^ l * 2 ^ (maxBits - l) := by rw [← pow_add, Nat.add_sub_cancel' hl]

/-- The codes of longer lengths begin after those of a length (R152). -/
theorem firstCode_add_count_mul_le (blCount : List Nat) (l : Nat) {k : Nat} (hk : k ≠ 0) :
    (firstCode blCount l + blCount.getD l 0) * 2 ^ k ≤ firstCode blCount (l + k) := by
  induction k with
  | zero => exact absurd rfl hk
  | succ k ih =>
    rw [← Nat.add_assoc, firstCode_succ, pow_succ, ← Nat.mul_assoc]
    refine Nat.mul_le_mul_right 2 ?_
    rcases Nat.eq_zero_or_pos k with rfl | hk
    · simp
    · exact (ih hk.ne').trans (Nat.le_add_right _ _)

/-! ### Canonical codes -/

theorem canonicalCode_eq (lengths : List Nat) (sym : Nat) :
    canonicalCode lengths sym = firstCode (countLengths lengths) (lengths.getD sym 0) +
      (lengths.take sym).count (lengths.getD sym 0) := by
  rw [canonicalCode, List.count_eq_length_filter]

theorem getD_le_maxBits (h : acceptable lengths) (sym : Nat) : lengths.getD sym 0 ≤ maxBits := by
  rw [List.getD_eq_getElem?_getD]
  cases hs : lengths[sym]? with
  | none => exact Nat.zero_le _
  | some l => exact h.1 l (List.mem_of_getElem? hs)

/-- Symbols of one length are numbered in their order (R154). -/
theorem count_take_lt {i j : Nat} (hij : i < j) (hi : i < lengths.length) :
    (lengths.take i).count (lengths.getD i 0) < (lengths.take j).count (lengths.getD i 0) := by
  have hself : (lengths.take (i + 1)).count (lengths.getD i 0) = (lengths.take i).count (lengths.getD i 0) + 1 := by
    rw [List.take_succ_eq_append_getElem hi, List.getD_eq_getElem lengths 0 hi, List.count_append,
      List.count_singleton_self]
  have hle : (lengths.take (i + 1)).count (lengths.getD i 0) ≤ (lengths.take j).count (lengths.getD i 0) :=
    (List.take_sublist_take_left hij).count_le _
  omega

/-- A coded symbol's code is one of the codes of its length (R154). -/
theorem canonicalCode_lt_firstCode_add_count (h : acceptable lengths) {sym : Nat} (hs : sym < lengths.length)
    (hc : lengths.getD sym 0 ≠ 0) :
    canonicalCode lengths sym <
      firstCode (countLengths lengths) (lengths.getD sym 0) + (countLengths lengths).getD (lengths.getD sym 0) 0 := by
  have hlt := count_take_lt hs hs
  rw [List.take_length] at hlt
  rw [canonicalCode_eq, countLengths_getD h.1, if_neg hc]
  omega

theorem canonicalCode_lt (h : acceptable lengths) {sym : Nat} (hs : sym < lengths.length)
    (hc : lengths.getD sym 0 ≠ 0) : canonicalCode lengths sym < 2 ^ lengths.getD sym 0 :=
  (canonicalCode_lt_firstCode_add_count h hs hc).trans_le (firstCode_add_count_le h (getD_le_maxBits h sym))

/-- Two symbols of one length have different codes (R154). -/
theorem canonicalCode_injective {i j : Nat} (hi : i < lengths.length) (hj : j < lengths.length)
    (hl : lengths.getD i 0 = lengths.getD j 0) (hc : canonicalCode lengths i = canonicalCode lengths j) : i = j := by
  rw [canonicalCode_eq, canonicalCode_eq, ← hl] at hc
  by_contra hij
  rcases Nat.lt_or_gt_of_ne hij with hlt | hlt
  · have := count_take_lt hlt hi
    omega
  · have := count_take_lt hlt hj
    rw [← hl] at this
    omega

/-- No code is the beginning of another symbol's code (R152, R155). -/
theorem eq_of_canonicalCode_extends (h : acceptable lengths) {i j : Nat} (hi : i < lengths.length)
    (hj : j < lengths.length) (hc : lengths.getD i 0 ≠ 0) (hl : lengths.getD i 0 ≤ lengths.getD j 0)
    (hp : canonicalCode lengths j / 2 ^ (lengths.getD j 0 - lengths.getD i 0) = canonicalCode lengths i) : i = j := by
  obtain ⟨k, hk⟩ := Nat.exists_eq_add_of_le hl
  rw [hk, Nat.add_sub_cancel_left] at hp
  rcases Nat.eq_zero_or_pos k with rfl | hpos
  · exact canonicalCode_injective hi hj hk.symm (by simpa using hp.symm)
  · have hbelow : (canonicalCode lengths i + 1) * 2 ^ k ≤ canonicalCode lengths j :=
      calc (canonicalCode lengths i + 1) * 2 ^ k
          ≤ (firstCode (countLengths lengths) (lengths.getD i 0) +
              (countLengths lengths).getD (lengths.getD i 0) 0) * 2 ^ k :=
            Nat.mul_le_mul_right _ (canonicalCode_lt_firstCode_add_count h hi hc)
        _ ≤ firstCode (countLengths lengths) (lengths.getD i 0 + k) := firstCode_add_count_mul_le _ _ hpos.ne'
        _ ≤ canonicalCode lengths j := by rw [canonicalCode_eq, hk]; exact Nat.le_add_right _ _
    have := (Nat.le_div_iff_mul_le (Nat.two_pow_pos k)).mpr hbelow
    omega

/-! ### What HT.BUILD leaves -/

theorem exec_htBuild (t : TreeSel) (s : State) : exec (.htBuild t) s = perform (htBuild t) s := rfl

theorem exec_htBuild_over (hl : ∀ l ∈ s.lengthsOf t, l ≤ maxBits)
    (h : 2 ^ maxBits < (((s.lengthsOf t).filter fun l => l ≠ 0).map fun l => 2 ^ (maxBits - l)).sum) :
    Raises (exec (.htBuild t) s) .malformedHuffmanTable := by
  rw [exec_htBuild]
  exact perform_raises (htBuild_over ((overSubscribed_countLengths hl).mpr h))

/-- What HT.BUILD leaves of an acceptable table (R151 to R154). -/
def State.afterBuild (s : State) (t : TreeSel) : State :=
  State.setTree { s with
    blCount := countLengths (s.lengthsOf t)
    nextCode := (assignCodes (s.lengthsOf t) 0 (firstCodes (countLengths (s.lengthsOf t))) emptyRoot).1
    code := firstCode (countLengths (s.lengthsOf t)) maxBits } t (builtTree (s.lengthsOf t))

@[simp] theorem State.afterBuild_tree (s : State) (t : TreeSel) :
    (s.afterBuild t).tree t = builtTree (s.lengthsOf t) := State.tree_setTree _ _ _

theorem exec_htBuild_ok (h : acceptable (s.lengthsOf t)) : exec (.htBuild t) s = .next (s.afterBuild t) := by
  have hover : overSubscribed (countLengths (s.lengthsOf t)) = false := by
    rw [Bool.eq_false_iff, ne_eq, overSubscribed_countLengths h.1]
    exact Nat.not_lt.mpr h.2
  rw [exec_htBuild]
  exact perform_of_ok (htBuild_ok hover)

/-- An all-zero table gives no code (R153). -/
theorem assignCodes_of_all_zero (h : ∀ l ∈ lengths, l = 0) (sym : Nat) (nextCode : List Nat) (tree : Tree) :
    assignCodes lengths sym nextCode tree = (nextCode, tree) := by
  induction lengths generalizing sym with
  | nil => rfl
  | cons l ls ih =>
    rw [assignCodes, if_pos (h l (by simp))]
    exact ih (fun k hk => h k (by simp [hk])) _

/-- Step 3 counts each code it gives in `NEXT_CODE` (R154). -/
theorem assignCodes_nextCode (sym : Nat) {nextCode : List Nat} (tree : Tree) {l : Nat} (hl : l ≠ 0)
    (hlt : l < nextCode.length) :
    (assignCodes lengths sym nextCode tree).1.getD l 0 = nextCode.getD l 0 + lengths.count l := by
  induction lengths generalizing sym nextCode tree with
  | nil => rfl
  | cons k ls ih =>
    rw [assignCodes]
    split
    · next hk => rw [ih _ _ hlt, List.count_cons_of_ne (by omega)]
    · rw [ih _ _ (by simpa using hlt)]
      rcases eq_or_ne k l with rfl | hkl
      · rw [List.getD_eq_getElem _ _ (by simpa using hlt), List.getElem_set_self, List.count_cons_self]
        omega
      · rw [List.count_cons_of_ne hkl]
        simp [List.getD_eq_getElem?_getD, hkl]

/-- `NEXT_CODE[L]` after a table is the first code of L plus the symbols of that length (R152, R154). -/
theorem assignCodes_firstCodes (blCount : List Nat) (sym : Nat) (tree : Tree) {l : Nat} (hl : l ≠ 0)
    (hb : l ≤ maxBits) :
    (assignCodes lengths sym (firstCodes blCount) tree).1.getD l 0 = firstCode blCount l + lengths.count l := by
  have hlen : (firstCodes blCount).length = maxBits + 1 := by simp [firstCodes]
  rw [assignCodes_nextCode _ _ hl (by omega), List.getD_eq_getElem _ _ (by omega)]
  simp [firstCodes]

/-! ### The obligations on HT.BUILD -/

/-- Settles O15: HT.BUILD tests the Kraft sum over the symbols. -/
theorem buildFaultsExactlyOnOverSubscribedTables : Obligations.BuildFaultsExactlyOnOverSubscribedTables := by
  intro t s hl
  refine ⟨exec_htBuild_over hl, fun hsum => ⟨_, exec_htBuild_ok ⟨hl, hsum⟩, ?_⟩⟩
  rw [State.afterBuild_tree]
  refine ⟨by cases t <;> rfl, by cases t <;> rfl, by cases t <;> rfl,
    Tree.built_ne_none (builtTree_built _), fun hz => ?_⟩
  rw [builtTree, assignCodes_of_all_zero hz]
  rfl

/-- Settles O16: the counts, the first codes and the codes given are those of the table. -/
theorem buildCountsAndNumbersTheCodes : Obligations.BuildCountsAndNumbersTheCodes := by
  intro t s h
  have hcount : ∀ l, 1 ≤ l → (countLengths (s.lengthsOf t)).getD l 0 = (s.lengthsOf t).count l := fun l hl => by
    rw [countLengths_getD h.1, if_neg (by omega)]
  have hcounts : (s.afterBuild t).blCount = countLengths (s.lengthsOf t) := by cases t <;> rfl
  have hcodes : (s.afterBuild t).nextCode =
      (assignCodes (s.lengthsOf t) 0 (firstCodes (countLengths (s.lengthsOf t))) emptyRoot).1 := by cases t <;> rfl
  refine ⟨s.afterBuild t, firstCode (countLengths (s.lengthsOf t)), exec_htBuild_ok h, by cases t <;> rfl, ?_⟩
  rw [hcounts, hcodes]
  refine ⟨countLengths_getD h.1 0, fun l hl _ => hcount l hl, ?_, fun l hl _ => ?_, fun l hl hb => ⟨?_, ?_⟩,
    by cases t <;> rfl⟩
  · rw [firstCode_succ, countLengths_getD h.1 0]
    rfl
  · rw [firstCode_succ, hcount l hl]
  · exact assignCodes_firstCodes _ _ _ (by omega) hb
  · rw [← hcount l hl]
    exact firstCode_add_count_le h hb

end Sys2Proof.Machine
end

section
/-! PROOF. The trees of HT.BUILD (41_huffman.md R154, R155). What the tree holds after each symbol is said exactly: the
symbols stand where their codes lead, and the nodes are those that the codes pass through. As no code is the start of
another, the symbols stand on leaves. -/

namespace Sys2Proof.Machine

variable {lengths : List Nat}

/-! ### Paths -/

/-- The first `k` turns of the code `c` of `l` bits are the turns that the low `k` bits of `d` spell. -/
def OnPath (l c k d : Nat) : Prop := k ≤ l ∧ ∀ i, i < k → c.testBit (l - k + i) = d.testBit i

theorem onPath_zero (l c d : Nat) : OnPath l c 0 d := ⟨Nat.zero_le l, fun _ hi => absurd hi (Nat.not_lt_zero _)⟩

theorem onPath_self (l c : Nat) : OnPath l c l c := ⟨le_rfl, fun i _ => by rw [Nat.sub_self, Nat.zero_add]⟩

theorem onPath_succ_succ {l c k d : Nat} :
    OnPath (l + 1) c (k + 1) d ↔ c.testBit l = d.testBit k ∧ OnPath l c k d := by
  rw [OnPath, OnPath, Nat.forall_lt_succ_right, Nat.add_sub_add_right, Nat.add_le_add_iff_right]
  constructor
  · rintro ⟨hk, hi, hlast⟩
    rw [Nat.sub_add_cancel hk] at hlast
    exact ⟨hlast, hk, hi⟩
  · rintro ⟨hlast, hk, hi⟩
    exact ⟨hk, hi, by rwa [Nat.sub_add_cancel hk]⟩

/-- A place may be given by the code that ends there: only the low bits of `d` matter. -/
theorem OnPath.congr {l c k d e : Nat} (h : OnPath l c k d) (he : OnPath k e k d) : OnPath l c k e :=
  ⟨h.1, fun i hi => by
    have := he.2 i hi
    rw [Nat.sub_self, Nat.zero_add] at this
    rw [h.2 i hi, this]⟩

/-- A code that passes through a node passes through the one above it. -/
theorem OnPath.above {l c k d : Nat} (h : OnPath l c (k + 1) d) : OnPath l c k (d / 2) := by
  obtain ⟨hk, hbits⟩ := h
  refine ⟨by omega, fun i hi => ?_⟩
  rw [← Nat.testBit_succ, ← hbits (i + 1) (by omega), show l - (k + 1) + (i + 1) = l - k + i by omega]

/-- A code that passes through a node and does not end there goes on to a child of it. -/
theorem OnPath.below {l c k d : Nat} (h : OnPath l c k d) (hlt : k < l) :
    ∃ e, e / 2 = d ∧ OnPath l c (k + 1) e := by
  refine ⟨Nat.bit (c.testBit (l - (k + 1))) d, Nat.bit_div_two _ _, hlt, fun i hi => ?_⟩
  cases i with
  | zero => rw [Nat.testBit_bit_zero, Nat.add_zero]
  | succ i => rw [Nat.testBit_bit_succ, ← h.2 i (by omega), show l - (k + 1) + (i + 1) = l - k + i by omega]

/-- The node that a code passes through is that of its first bits. -/
theorem OnPath.div_eq {l c k d : Nat} (h : OnPath l c k d) (hc : c < 2 ^ l) : c / 2 ^ (l - k) = d % 2 ^ k := by
  obtain ⟨hk, hbits⟩ := h
  have hlt : c / 2 ^ (l - k) < 2 ^ k := by
    rwa [Nat.div_lt_iff_lt_mul (Nat.two_pow_pos _), ← pow_add, Nat.add_sub_cancel' hk]
  rw [← Nat.mod_eq_of_lt hlt]
  refine Nat.eq_of_testBit_eq fun i => ?_
  rw [Nat.testBit_mod_two_pow, Nat.testBit_mod_two_pow, Nat.testBit_div_two_pow, Nat.add_comm i]
  by_cases hi : i < k
  · rw [hbits i hi]
  · simp [hi]

/-! ### Where a path leads -/

/-- The last turn of a path goes to a child of the node before it. -/
theorem Tree.follow_succ (tree : Tree) (k d : Nat) :
    tree.follow (k + 1) d =
      if d.testBit 0 then (tree.follow k (d / 2)).right else (tree.follow k (d / 2)).left := by
  induction k generalizing tree with
  | zero => rfl
  | succ k ih =>
    rw [Tree.follow, ih, ih, Tree.follow, Nat.testBit_succ]
    by_cases hd : (d / 2).testBit k <;> simp only [hd, if_true, if_false, Bool.false_eq_true]

theorem Tree.insert_ne_none (tree : Tree) (l c sym : Nat) : tree.insert l c sym ≠ .none := by
  cases l with
  | zero => exact Tree.noConfusion
  | succ l =>
    rw [Tree.insert]
    split <;> exact Tree.noConfusion

theorem Tree.symbol_insert (tree : Tree) (l c sym : Nat) :
    (tree.insert l c sym).symbol = if l = 0 then some sym else tree.symbol := by
  cases l with
  | zero => rfl
  | succ l =>
    rw [Tree.insert]
    split <;> rfl

open Classical in
/-- The walk of step 3 changes the nodes its code passes through, and no other (R154). -/
theorem Tree.follow_insert_eq (tree : Tree) (l c sym k d : Nat) :
    (tree.insert l c sym).follow k d =
      if OnPath l c k d then (tree.follow k d).insert (l - k) c sym else tree.follow k d := by
  induction k generalizing tree l with
  | zero => rw [if_pos (onPath_zero l c d)]; rfl
  | succ k ih =>
    cases l with
    | zero =>
      rw [if_neg fun h => absurd h.1 (by omega)]
      rfl
    | succ l =>
      rw [Tree.insert, onPath_succ_succ, Nat.add_sub_add_right]
      by_cases hc : c.testBit l <;> by_cases hd : d.testBit k <;>
        simp [Tree.follow, Tree.left, Tree.right, hc, hd, ih]

/-- The walk of step 3 makes at most one node for each bit of its code, and the root where there is none (R154). -/
theorem Tree.nodes_insert_le (tree : Tree) (l c sym : Nat) :
    (tree.insert l c sym).nodes ≤ max 1 tree.nodes + l := by
  induction l generalizing tree with
  | zero => cases tree <;> simp [Tree.insert, Tree.nodes, Tree.left, Tree.right]
  | succ l ih =>
    have hleft := ih tree.left
    have hright := ih tree.right
    have hsplit : tree.left.nodes + tree.right.nodes + 1 = max 1 tree.nodes := by
      cases tree <;> simp [Tree.nodes, Tree.left, Tree.right]
    rw [Tree.insert]
    split <;> (rw [Tree.nodes]; omega)

/-! ### The tree after each symbol -/

/-- The canonical code of a symbol passes through the node that the low `k` bits of `d` lead to. -/
abbrev PassesThrough (lengths : List Nat) (sym k d : Nat) : Prop :=
  OnPath (lengths.getD sym 0) (canonicalCode lengths sym) k d

/-- The canonical code of a coded symbol is the one that the low `k` bits of `d` spell. -/
def EndsAt (lengths : List Nat) (sym k d : Nat) : Prop :=
  lengths.getD sym 0 = k ∧ k ≠ 0 ∧ PassesThrough lengths sym k d

/-- No other code passes through the place where a symbol's code ends (R155). -/
theorem EndsAt.eq_of_passesThrough (ha : acceptable lengths) {i j k d : Nat} (hi : i < lengths.length)
    (hj : j < lengths.length) (he : EndsAt lengths i k d) (hp : PassesThrough lengths j k d) : i = j := by
  obtain ⟨rfl, hc, hpi⟩ := he
  have hle : lengths.getD i 0 ≤ lengths.getD j 0 := hp.1
  refine eq_of_canonicalCode_extends ha hi hj hc hle ?_
  rw [(hp.congr hpi).div_eq (canonicalCode_lt ha hj (by omega)), Nat.mod_eq_of_lt (canonicalCode_lt ha hi hc)]

/-- A path on which a symbol's code ends spells that code. -/
theorem EndsAt.mod_eq (ha : acceptable lengths) {sym k d : Nat} (hs : sym < lengths.length)
    (he : EndsAt lengths sym k d) : d % 2 ^ k = canonicalCode lengths sym := by
  obtain ⟨rfl, hc, hp⟩ := he
  have := hp.div_eq (canonicalCode_lt ha hs hc)
  rw [← this, Nat.sub_self, pow_zero, Nat.div_one]

/-- Where the code of symbol `n` does not end, the symbol counts for nothing. -/
theorem lt_succ_and_endsAt {n sym k d : Nat} (hn : ¬ EndsAt lengths n k d) :
    sym < n + 1 ∧ EndsAt lengths sym k d ↔ sym < n ∧ EndsAt lengths sym k d := by
  refine and_congr_left fun he => ⟨fun hs => ?_, fun hs => hs.trans (Nat.lt_succ_self n)⟩
  refine lt_of_le_of_ne (Nat.le_of_lt_succ hs) ?_
  rintro rfl
  exact hn he

/-- What the tree holds after the first `n` symbols of a table: exactly their symbols, each where its canonical code
leads, and exactly the nodes their codes pass through (R154, R155). -/
structure Tree.HoldsCodes (lengths : List Nat) (n : Nat) (tree : Tree) : Prop where
  /-- A symbol stands exactly where its code ends. -/
  symbol_iff : ∀ k d sym, (tree.follow k d).symbol = some sym ↔ sym < n ∧ EndsAt lengths sym k d
  /-- A node is the root, or a code passes through it. -/
  node_iff : ∀ k d, tree.follow k d ≠ .none ↔ k = 0 ∨ ∃ sym, sym < n ∧ PassesThrough lengths sym k d

theorem emptyRoot_follow {k : Nat} (hk : k ≠ 0) (d : Nat) : emptyRoot.follow k d = .none := by
  obtain ⟨k, rfl⟩ := Nat.exists_eq_succ_of_ne_zero hk
  rw [Tree.follow]
  split <;> exact Tree.follow_none _ _

theorem emptyRoot_holdsCodes (lengths : List Nat) : emptyRoot.HoldsCodes lengths 0 where
  symbol_iff k d sym := by
    rcases eq_or_ne k 0 with rfl | hk
    · simp [Tree.follow, emptyRoot, Tree.symbol]
    · simp [emptyRoot_follow hk, Tree.symbol]
  node_iff k d := by
    rcases eq_or_ne k 0 with rfl | hk
    · simp [Tree.follow, emptyRoot]
    · simp [emptyRoot_follow hk, hk]

/-- A symbol of length 0 adds nothing to what the tree holds. -/
theorem Tree.HoldsCodes.skip {n : Nat} {tree : Tree} (h : tree.HoldsCodes lengths n) (h0 : lengths.getD n 0 = 0) :
    tree.HoldsCodes lengths (n + 1) where
  symbol_iff k d sym := by
    rw [h.symbol_iff, lt_succ_and_endsAt]
    rintro ⟨hl, hk, -⟩
    exact hk (hl.symm.trans h0)
  node_iff k d := by
    rw [h.node_iff, Nat.exists_lt_succ_right, ← or_assoc]
    refine (or_iff_left_of_imp fun hp => .inl ?_).symm
    have hle : k ≤ lengths.getD n 0 := hp.1
    omega

/-- The walk of step 3 for the next symbol's code adds that symbol to what the tree holds (R154). -/
theorem Tree.HoldsCodes.insert {n : Nat} {tree : Tree} (ha : acceptable lengths) (h : tree.HoldsCodes lengths n)
    (hn : n < lengths.length) (h0 : lengths.getD n 0 ≠ 0) :
    (tree.insert (lengths.getD n 0) (canonicalCode lengths n) n).HoldsCodes lengths (n + 1) where
  symbol_iff k d sym := by
    rw [Tree.follow_insert_eq]
    by_cases he : EndsAt lengths n k d
    · obtain ⟨rfl, hk, hp⟩ := id he
      rw [if_pos hp, Tree.symbol_insert, if_pos (Nat.sub_self _), Option.some_inj]
      constructor
      · rintro rfl
        exact ⟨Nat.lt_succ_self n, he⟩
      · rintro ⟨hs, -, -, hps⟩
        exact he.eq_of_passesThrough ha hn (by omega) hps
    · rw [lt_succ_and_endsAt he, ← h.symbol_iff]
      split
      · next hp =>
        rw [Tree.symbol_insert, if_neg]
        have hle : k ≤ lengths.getD n 0 := hp.1
        intro hsub
        exact he ⟨by omega, by omega, hp⟩
      · rfl
  node_iff k d := by
    rw [Tree.follow_insert_eq, Nat.exists_lt_succ_right, ← or_assoc, ← h.node_iff]
    split
    · next hp => exact iff_of_true (Tree.insert_ne_none _ _ _ _) (.inr hp)
    · next hp => exact (or_iff_left hp).symm

/-- Step 3 up to one more symbol (R154). -/
theorem assignCodes_concat (ls : List Nat) (l sym : Nat) (nextCode : List Nat) (tree : Tree) :
    (assignCodes (ls ++ [l]) sym nextCode tree).2 =
      if l = 0 then (assignCodes ls sym nextCode tree).2
      else (assignCodes ls sym nextCode tree).2.insert l
        ((assignCodes ls sym nextCode tree).1.getD l 0) (sym + ls.length) := by
  induction ls generalizing sym nextCode tree with
  | nil =>
    simp only [List.nil_append, assignCodes]
    split <;> rfl
  | cons k ls ih =>
    rw [List.cons_append, assignCodes, assignCodes, List.length_cons, Nat.add_comm ls.length, ← Nat.add_assoc]
    split <;> exact ih _ _ _

/-- After its first `n` symbols, step 3 has built a tree that holds their codes (R154, R155). -/
theorem assignCodes_holdsCodes (ha : acceptable lengths) {n : Nat} (hn : n ≤ lengths.length) :
    (assignCodes (lengths.take n) 0 (firstCodes (countLengths lengths)) emptyRoot).2.HoldsCodes lengths n := by
  induction n with
  | zero => exact emptyRoot_holdsCodes lengths
  | succ n ih =>
    have hlen : (lengths.take n).length = n := List.length_take_of_le (by omega)
    rw [List.take_succ_eq_append_getElem hn, ← List.getD_eq_getElem lengths 0 hn, assignCodes_concat]
    split
    · next h0 => exact (ih (by omega)).skip h0
    · next h0 =>
      rw [assignCodes_firstCodes _ _ _ h0 (getD_le_maxBits ha n), ← canonicalCode_eq, hlen, Nat.zero_add]
      exact (ih (by omega)).insert ha hn h0

theorem builtTree_holdsCodes (ha : acceptable lengths) : (builtTree lengths).HoldsCodes lengths lengths.length := by
  have := assignCodes_holdsCodes ha le_rfl
  rwa [List.take_length] at this

/-- Step 3 makes at most one node for each bit of each code (R155). -/
theorem assignCodes_nodes_le (sym : Nat) (nextCode : List Nat) (tree : Tree) :
    (assignCodes lengths sym nextCode tree).2.nodes ≤ max 1 tree.nodes + lengths.sum := by
  induction lengths generalizing sym nextCode tree with
  | nil => exact Nat.le_max_right _ _
  | cons l ls ih =>
    rw [assignCodes, List.sum_cons]
    split
    · exact (ih _ _ _).trans (by omega)
    · have := tree.nodes_insert_le l (nextCode.getD l 0) sym
      exact (ih _ _ _).trans (by omega)

/-! ### Leaves -/

variable {tree : Tree} {k d : Nat}

/-- A node with a symbol is a leaf, as no code goes on from it. -/
theorem Tree.HoldsCodes.leaf_of_symbol (ha : acceptable lengths) (h : tree.HoldsCodes lengths lengths.length)
    {sym : Nat} (hs : (tree.follow k d).symbol = some sym) : tree.follow k d = Tree.leaf sym := by
  obtain ⟨hsym, he⟩ := (h.symbol_iff k d sym).mp hs
  have hchild : ∀ e, e / 2 = d → tree.follow (k + 1) e = .none := by
    rintro e rfl
    by_contra hne
    obtain hz | ⟨j, hj, hp⟩ := (h.node_iff _ _).mp hne
    · exact absurd hz (Nat.succ_ne_zero k)
    · obtain rfl := he.eq_of_passesThrough ha hsym hj hp.above
      have hlong : k + 1 ≤ lengths.getD sym 0 := hp.1
      obtain ⟨hlen, -⟩ := he
      omega
  have hleft := hchild (2 * d) (by omega)
  have hright := hchild (2 * d + 1) (by omega)
  rw [Tree.follow_succ, Nat.mul_div_cancel_left d two_pos, if_neg (by simp)] at hleft
  rw [Tree.follow_succ, show (2 * d + 1) / 2 = d by omega, if_pos (by simp)] at hright
  cases hnode : tree.follow k d with
  | none => simp [hnode, Tree.symbol] at hs
  | node x y v =>
    rw [hnode] at hs hleft hright
    obtain rfl : x = .none := hleft
    obtain rfl : y = .none := hright
    obtain rfl : v = some sym := hs
    rfl

/-- Every node but the root has a symbol or a child: a code ends there or goes on. -/
theorem Tree.HoldsCodes.follow_ne_empty {n : Nat} (h : tree.HoldsCodes lengths n) (hk : k ≠ 0) :
    tree.follow k d ≠ emptyRoot := by
  intro hempty
  obtain hz | ⟨sym, hsym, hp⟩ := (h.node_iff k d).mp (by rw [hempty]; exact Tree.noConfusion)
  · exact hk hz
  rcases Nat.eq_or_lt_of_le (show k ≤ lengths.getD sym 0 from hp.1) with heq | hlt
  · have hs := (h.symbol_iff k d sym).mpr ⟨hsym, heq.symm, hk, hp⟩
    rw [hempty] at hs
    cases hs
  · obtain ⟨e, rfl, hp'⟩ := hp.below hlt
    refine (h.node_iff (k + 1) e).mpr (.inr ⟨sym, hsym, hp'⟩) ?_
    rw [Tree.follow_succ, hempty]
    split <;> rfl

/-! ### The obligation -/

/-- Settles O17: the built tree holds exactly the canonical codes, none of which goes on from another. -/
theorem builtTreePathsAreTheCanonicalCodes : Obligations.BuiltTreePathsAreTheCanonicalCodes := by
  intro t s ha
  have h := builtTree_holdsCodes ha
  refine ⟨s.afterBuild t, exec_htBuild_ok ha, ?_⟩
  rw [State.afterBuild_tree]
  refine ⟨fun sym hs hc => ⟨canonicalCode_lt ha hs hc, h.leaf_of_symbol ha ((h.symbol_iff _ _ _).mpr
    ⟨hs, rfl, hc, onPath_self _ _⟩)⟩, fun l c x y sym hf => ?_, fun l c hl => h.follow_ne_empty hl,
    assignCodes_nodes_le _ _ _⟩
  have hs : ((builtTree (s.lengthsOf t)).follow l c).symbol = some sym := by rw [hf]; rfl
  have hleaf := h.leaf_of_symbol ha hs
  rw [hf] at hleaf
  cases hleaf
  obtain ⟨hsym, he⟩ := (h.symbol_iff l c sym).mp hs
  have hcode := he.mod_eq ha hsym
  obtain ⟨hlen, hl, -⟩ := he
  exact ⟨rfl, rfl, hsym, hl, hlen, hcode⟩

end Sys2Proof.Machine
end

section
/-! PROOF. HT.DECODE (41_huffman.md R156 to R160): the descent returns the symbol whose code is ahead, or stops at the
node the next bits lead to. On a built tree what it read is the canonical code of the symbol. -/

namespace Sys2Proof.Machine

variable {t : TreeSel} {s : State} {x y : Tree} {sym : Option Nat} {l : Nat}

theorem exec_htDecode (t : TreeSel) (s : State) : exec (.htDecode t) s = perform (returning (htDecode t)) s := rfl

/-- With no bit left at an inner node, the stream is truncated (R160). -/
theorem Tree.descend_follow_short {tree : Tree} (hb : s.hasBits l)
    (hf : tree.follow l (s.input.msbField s.cur l) = .node x y sym) (hi : x ≠ .none ∨ y ≠ .none)
    (h : ¬ s.hasBits (l + 1)) :
    tree.descend s = .error (.raise .streamTruncated) { s with cur := s.cur + l } := by
  rw [Tree.descend_follow hb hf, Tree.descend_short hi h]

/-- With a bit left at an inner node whose child on that side is missing, the tree is malformed (R157 a, R160). -/
theorem Tree.descend_follow_missing {tree : Tree} (hb : s.hasBits (l + 1))
    (hf : tree.follow l (s.input.msbField s.cur l) = .node x y sym) (hi : x ≠ .none ∨ y ≠ .none)
    (hm : (if s.input.bit (s.cur + l) = 1 then y else x) = .none) :
    tree.descend s = .error (.raise .malformedHuffmanTable) { s with cur := s.cur + l + 1 } := by
  rw [Tree.descend_follow (State.hasBits_left hb) hf, Tree.descend_inner hi (State.hasBits_right hb), if_pos hm]

/-- Settles O20: the descent stops at the node the next bits lead to. -/
theorem decodeFaultsInTheOrderOfTheDescent : Obligations.DecodeFaultsInTheOrderOfTheDescent := by
  intro t s l x y sym
  rw [exec_htDecode]
  refine ⟨fun h => ?_, fun hb hf => ⟨fun hshort hi => ?_, fun h1 hbit hx hy => ?_, fun h1 hbit hy hx => ?_⟩⟩
  · exact perform_returning_raises (by rw [htDecode_apply, h, Tree.descend_empty])
  · exact perform_returning_raises (Tree.descend_follow_short hb hf hi hshort)
  · exact perform_returning_raises (Tree.descend_follow_missing h1 hf (.inr hy) (by simp [hbit, hx]))
  · exact perform_returning_raises (Tree.descend_follow_missing h1 hf (.inl hx) (by simp [hbit, hy]))

/-- Settles O18: the descent follows the code ahead to its leaf. -/
theorem decodeReturnsTheSymbolAhead : Obligations.DecodeReturnsTheSymbolAhead := by
  intro t s l sym h
  rw [exec_htDecode]
  exact perform_returning_of_ok (Tree.descend_code h)

/-- Settles O19: a symbol of the built tree stands only where its canonical code leads. -/
theorem decodeConsumesExactlyTheCode : Obligations.DecodeConsumesExactlyTheCode := by
  intro t s u v sym ha hbuild hdecode
  rw [exec_htBuild_ok ha] at hbuild
  cases hbuild
  rw [htDecode_apply, State.afterBuild_tree] at hdecode
  obtain ⟨l, -, hf, rfl⟩ := Tree.of_descend_ok hdecode
  obtain ⟨hsym, he⟩ := ((builtTree_holdsCodes ha).symbol_iff _ _ _).mp
    (show Tree.symbol _ = some sym by rw [hf]; rfl)
  have hcode := he.mod_eq ha hsym
  obtain ⟨rfl, hc, -⟩ := he
  rw [Nat.mod_eq_of_lt (Memory.msbField_lt _ _ _)] at hcode
  exact ⟨rfl, Nat.pos_of_ne_zero hc, getD_le_maxBits ha sym, rfl, hcode⟩

end Sys2Proof.Machine
end

section
/-! PROOF. The stored body (42_stored.md R170, R171). The two lengths are the little-endian words at the aligned cursor;
the check and the copy that follow them are a piece of their own. -/

namespace Sys2Proof.Machine

variable {s : State} {k len nlen : Nat}

/-! ### The two lengths as words of the input -/

/-- The low bits of a byte are its first bits in the stream (20_memory.md R64, R65). -/
theorem Memory.lsbField_in_byte (m : Memory) (k : Nat) {n : Nat} (hn : n ≤ 8) :
    m.lsbField (8 * k) n = (m.read k).toNat % 2 ^ n := by
  induction n with
  | zero => simp [Nat.mod_one]
  | succ n ih =>
    have hbit : m.bit (8 * k + n) = (m.read k).toNat / 2 ^ n % 2 := by
      rw [Memory.bit_eq, show (8 * k + n) / 8 = k by omega, show (8 * k + n) % 8 = n by omega]
    rw [Memory.lsbField_add, ih (by omega), Memory.lsbField_succ, Memory.lsbField_zero, hbit, pow_succ, Nat.mod_mul]
    ring

/-- The two bytes from byte `k` on as a number, the first one low (20_memory.md R67). -/
def Memory.word (m : Memory) (k : Nat) : Nat := (m.read k).toNat + 256 * (m.read (k + 1)).toNat

theorem Memory.word_lt (m : Memory) (k : Nat) : m.word k < 2 ^ 16 := by
  have h0 := (m.read k).isLt
  have h1 := (m.read (k + 1)).isLt
  unfold Memory.word
  omega

/-- RB.LSB(16) at a byte boundary reads a word (20_memory.md R67). -/
theorem Memory.lsbField_word (m : Memory) (k : Nat) : m.lsbField (8 * k) 16 = m.word k := by
  have hbyte (j : Nat) : m.lsbField (8 * j) 8 = (m.read j).toNat := by
    rw [Memory.lsbField_in_byte m j le_rfl, Nat.mod_eq_of_lt (m.read j).isLt]
  rw [Memory.lsbField_add m _ 8 8, ← Nat.mul_succ, hbyte, hbyte, Memory.word]
  ring

/-- The check on the 16-bit registers is the check on the numbers they hold (42_stored.md R170). -/
theorem xor_word16_eq_iff (hlen : len < 2 ^ 16) (hnlen : nlen < 2 ^ 16) :
    BitVec.ofNat 16 len ^^^ BitVec.ofNat 16 nlen = 0xFFFF#16 ↔ len ^^^ nlen = 0xFFFF := by
  rw [← BitVec.toNat_inj, BitVec.toNat_xor, BitVec.toNat_ofNat, BitVec.toNat_ofNat, Nat.mod_eq_of_lt hlen,
    Nat.mod_eq_of_lt hnlen]
  rfl

/-! ### Appending bytes -/

theorem State.appendAll_cons (s : State) (b : Byte) (data : List Byte) :
    s.appendAll (b :: data) = (s.append b).appendAll data := rfl

/-- Appending writes `OUT` and `OUT_LEN` only (20_memory.md R73). -/
theorem State.appendAll_frame (s : State) (data : List Byte) :
    s.appendAll data = { s with out := (s.appendAll data).out, outLen := s.outLen + data.length } := by
  induction data generalizing s with
  | nil => rfl
  | cons b data ih =>
    rw [State.appendAll_cons, ih, State.append_outLen, List.length_cons, Nat.add_assoc, Nat.add_comm 1]
    rfl

/-- No byte outside the appended ones changes (20_memory.md R73). -/
theorem State.appendAll_read_outside (s : State) (data : List Byte) {a : Nat}
    (ha : a < s.outLen ∨ s.outLen + data.length ≤ a) : (s.appendAll data).out.read a = s.out.read a := by
  induction data generalizing s with
  | nil => rfl
  | cons b data ih =>
    rw [List.length_cons] at ha
    rw [State.appendAll_cons, ih _ (by rw [State.append_outLen]; omega), State.append_out,
      Memory.read_write_other _ _ (by omega)]

/-- The appended bytes stand from `OUT_LEN` on, in order (20_memory.md R73). -/
theorem State.appendAll_read_appended (s : State) (data : List Byte) {i : Nat} (hi : i < data.length) :
    (s.appendAll data).out.read (s.outLen + i) = data[i] := by
  induction data generalizing s i with
  | nil => exact absurd hi (Nat.not_lt_zero i)
  | cons b data ih =>
    rw [State.appendAll_cons]
    cases i with
    | zero =>
      rw [State.appendAll_read_outside _ _ (.inl (Nat.lt_succ_self _))]
      exact Memory.read_write_same _ _ _
    | succ i =>
      rw [Nat.add_succ, ← Nat.succ_add]
      exact ih (s.append b) (Nat.lt_of_succ_lt_succ hi)

/-! ### The lengths, then the data -/

/-- `k` is the byte the aligned cursor stands on (40_bitreader.md R135). -/
theorem rbAlign_to_byte (hk : k = (s.cur + 7) / 8) : rbAlign s = .ok () { s with cur := 8 * k } := by
  rw [rbAlign_ok, ← hk, Nat.mul_comm]

/-- RB.LSB(16) at byte `k` with two bytes left reads the word there (40_bitreader.md R133). -/
theorem rbLsb_word (hcur : s.cur = 8 * k) (h : k + 2 ≤ s.inLen) :
    rbLsb 16 s = .ok (s.input.word k) { s with cur := 8 * (k + 2) } := by
  rw [rbLsb_ok (show s.cur + 16 ≤ 8 * s.inLen by omega), hcur, Memory.lsbField_word]
  rfl

theorem rbLsb_word_short (hcur : s.cur = 8 * k) (hk : k ≤ s.inLen) (h : s.inLen < k + 2) :
    ∃ t, rbLsb 16 s = .error (.raise .streamTruncated) t :=
  rbLsb_short (by omega) (show ¬ s.cur + 16 ≤ 8 * s.inLen by omega)

/-- The state behind `LEN`, which stands from byte `k` on (42_stored.md R170). -/
def State.atNlen (s : State) (k : Nat) : State :=
  { s with cur := 8 * (k + 2), len := BitVec.ofNat 16 (s.input.word k) }

/-- The state behind `LEN` and `NLEN` (42_stored.md R170). -/
def State.atStoredData (s : State) (k : Nat) : State :=
  { s with cur := 8 * (k + 4), len := BitVec.ofNat 16 (s.input.word k),
           nlen := BitVec.ofNat 16 (s.input.word (k + 2)) }

/-- The check and the copy, the part of the stored body behind its lengths (42_stored.md R170). -/
def storedData : M Unit := do
  let s ← get
  if s.storedCheck then
    let data ← rbBytes s.len.toNat
    modify fun s => s.appendAll data
  else
    raise .storedBlockLengthMismatch

/-- The part of the stored body behind `LEN`. -/
def storedNlen : M Unit := do
  let nlen ← rbLsb 16
  modify fun s => { s with nlen := BitVec.ofNat 16 nlen }
  storedData

/-- With two bytes left from the boundary on, the stored body reads `LEN` and goes on to `NLEN`. -/
theorem storedBody_of_hasLen (hk : k = (s.cur + 7) / 8) (h : k + 2 ≤ s.inLen) :
    storedBody s = storedNlen (s.atNlen k) := by
  rw [storedBody, M.bind_of_ok _ (rbAlign_to_byte hk), M.bind_of_ok _ (rbLsb_word (s := { s with cur := 8 * k }) rfl h)]
  rfl

/-- With four bytes left it reads both lengths and goes on to the data. -/
theorem storedBody_of_hasLengths (hk : k = (s.cur + 7) / 8) (h : k + 4 ≤ s.inLen) :
    storedBody s = storedData (s.atStoredData k) := by
  rw [storedBody_of_hasLen hk (by omega), storedNlen, M.bind_of_ok _ (rbLsb_word (s := s.atNlen k) rfl h)]
  rfl

/-- With fewer bytes left one of the two reads of a length raises StreamTruncated (42_stored.md R171). -/
theorem storedBody_short (hc : s.cur ≤ 8 * s.inLen) (hk : k = (s.cur + 7) / 8) (h : s.inLen < k + 4) :
    ∃ t, storedBody s = .error (.raise .streamTruncated) t := by
  by_cases hlen : k + 2 ≤ s.inLen
  · obtain ⟨t, ht⟩ := rbLsb_word_short (s := s.atNlen k) rfl hlen h
    exact ⟨t, (storedBody_of_hasLen hk hlen).trans (M.bind_of_error _ ht)⟩
  · obtain ⟨t, ht⟩ := rbLsb_word_short (s := { s with cur := 8 * k }) rfl (show k ≤ s.inLen by omega)
      (Nat.lt_of_not_le hlen)
    exact ⟨t, (M.bind_of_ok _ (rbAlign_to_byte hk)).trans (M.bind_of_error _ ht)⟩

theorem State.atStoredData_check : (s.atStoredData k).storedCheck = true ↔
    s.input.word k ^^^ s.input.word (k + 2) = 0xFFFF := by
  rw [State.storedCheck, beq_iff_eq]
  exact xor_word16_eq_iff (s.input.word_lt k) (s.input.word_lt (k + 2))

theorem State.atStoredData_len : (s.atStoredData k).len.toNat = s.input.word k :=
  (BitVec.toNat_ofNat _ _).trans (Nat.mod_eq_of_lt (s.input.word_lt k))

/-- The cursor stands on byte `k + 4` behind the lengths. -/
theorem State.atStoredData_cur : (s.atStoredData k).cur / 8 = k + 4 := Nat.mul_div_cancel_left _ (by decide)

theorem State.atStoredData_aligned : (s.atStoredData k).cur % 8 = 0 := Nat.mul_mod_right 8 _

/-- A wrong complement raises StoredBlockLengthMismatch (42_stored.md R170, R171). -/
theorem storedData_mismatch (hx : s.input.word k ^^^ s.input.word (k + 2) ≠ 0xFFFF) :
    storedData (s.atStoredData k) = .error (.raise .storedBlockLengthMismatch) (s.atStoredData k) := by
  rw [storedData, M.get_bind, if_neg (mt State.atStoredData_check.mp hx), M.raise_apply]

/-- Lengths that agree are followed by the read of `LEN` bytes and their copy. -/
theorem storedData_of_check (hx : s.input.word k ^^^ s.input.word (k + 2) = 0xFFFF) :
    storedData (s.atStoredData k) =
      (rbBytes (s.input.word k) >>= fun data => modify fun s => s.appendAll data) (s.atStoredData k) := by
  rw [storedData, M.get_bind, if_pos (State.atStoredData_check.mpr hx), State.atStoredData_len]

/-- Data beyond the input raises StreamTruncated, nothing copied (42_stored.md R171). -/
theorem storedData_short (hx : s.input.word k ^^^ s.input.word (k + 2) = 0xFFFF)
    (h : s.inLen < k + 4 + s.input.word k) :
    storedData (s.atStoredData k) = .error (.raise .streamTruncated) (s.atStoredData k) := by
  rw [storedData_of_check hx]
  exact M.bind_of_error _ (rbBytes_short State.atStoredData_aligned (by rwa [State.atStoredData_cur]))

/-- The data is appended, and the cursor goes past it (42_stored.md R170). -/
theorem storedData_ok (hx : s.input.word k ^^^ s.input.word (k + 2) = 0xFFFF)
    (h : k + 4 + s.input.word k ≤ s.inLen) :
    storedData (s.atStoredData k) = .ok () (State.appendAll
      { s.atStoredData k with cur := 8 * (k + 4 + s.input.word k) } (s.input.bytes (k + 4) (s.input.word k))) := by
  rw [storedData_of_check hx,
    M.bind_of_ok _ (rbBytes_ok State.atStoredData_aligned (by rwa [State.atStoredData_cur])), M.modify_apply,
    State.atStoredData_cur, Nat.mul_add 8 (k + 4)]
  rfl

/-- The whole stored body: the cursor behind the data, and the data as it stands in the input behind the bytes
of `OUT` (42_stored.md R170). -/
theorem storedBody_ok (hk : k = (s.cur + 7) / 8) (hlen : len = s.input.word k) (hnlen : nlen = s.input.word (k + 2))
    (hx : len ^^^ nlen = 0xFFFF) (h : k + 4 + len ≤ s.inLen) :
    ∃ out, storedBody s = .ok () { s with
        cur := 8 * (k + 4 + len), len := BitVec.ofNat 16 len, nlen := BitVec.ofNat 16 nlen,
        out := out, outLen := s.outLen + len } ∧
      (∀ i, i < len → out.read (s.outLen + i) = s.input.read (k + 4 + i)) ∧
      ∀ a, a < s.outLen ∨ s.outLen + len ≤ a → out.read a = s.out.read a := by
  subst hlen hnlen
  have hcount := s.input.bytes_length (k + 4) (s.input.word k)
  have hok := (storedBody_of_hasLengths hk (Nat.le_of_add_right_le h)).trans (storedData_ok hx h)
  rw [State.appendAll_frame, hcount] at hok
  refine ⟨_, hok, fun i hi => ?_, fun a ha => ?_⟩
  · refine (State.appendAll_read_appended _ _ (by rwa [hcount])).trans ?_
    simp [Memory.bytes]
  · exact State.appendAll_read_outside _ _ (by rwa [hcount])

/-! ### The obligation -/

theorem exec_stHdr (s : State) :
    exec .stHdr s = perform (storedBody >>= fun _ => modify fun s => { s with phase := .returned }) s := rfl

/-- Settles O24: one clause for each way the stored body ends. -/
theorem storedBodyCopiesVerbatim : Obligations.StoredBodyCopiesVerbatim := by
  intro s k len nlen hc hk hlen hnlen
  rw [exec_stHdr]
  refine ⟨fun h => ?_, fun h hx => ?_, fun h hx hshort => ?_, fun h hx => ?_⟩
  · obtain ⟨t, ht⟩ := storedBody_short hc hk h
    exact perform_raises (M.bind_of_error _ ht)
  · subst hlen hnlen
    exact perform_raises (M.bind_of_error _ ((storedBody_of_hasLengths hk h).trans (storedData_mismatch hx)))
  · subst hlen hnlen
    exact perform_raises (M.bind_of_error _ ((storedBody_of_hasLengths hk h).trans (storedData_short hx hshort)))
  · obtain ⟨out, hok, hcopied, hkept⟩ := storedBody_ok hk hlen hnlen hx h
    exact ⟨_, perform_of_ok (M.bind_of_ok _ hok), rfl, hcopied, hkept⟩

end Sys2Proof.Machine
end

section
/-! PROOF. The fixed block (43_fixed.md). FIXED_LL is four runs of equal lengths, so the canonical code of a symbol is
the first code of its length plus its place in the runs of that length; and the raw distance field is one field of
the stream, read from either end. -/

namespace Sys2Proof.Machine

variable {lengths : List Nat} {t : TreeSel} {s u : State} {sym : Nat}

/-! ### An acceptable table -/

theorem htBuild_of_acceptable (h : acceptable (s.lengthsOf t)) : htBuild t s = .ok () (s.afterBuild t) := by
  refine htBuild_ok ?_
  rw [Bool.eq_false_iff, ne_eq, overSubscribed_countLengths h.1]
  exact Nat.not_lt.mpr h.2

/-- The canonical code of a coded symbol leads to its leaf (41_huffman.md R154, R155). -/
theorem builtTree_follow_canonicalCode (h : acceptable lengths) (hs : sym < lengths.length)
    (hc : lengths.getD sym 0 ≠ 0) :
    (builtTree lengths).follow (lengths.getD sym 0) (canonicalCode lengths sym) = Tree.leaf sym :=
  (builtTree_holdsCodes h).leaf_of_symbol h
    (((builtTree_holdsCodes h).symbol_iff _ _ _).mpr ⟨hs, rfl, hc, onPath_self _ _⟩)

/-! ### FIXED_LL -/

/-- FIXED_LL is four runs (R180). -/
theorem fixedLengths_eq_runs : fixedLengths =
    List.replicate 144 8 ++ List.replicate 112 9 ++ List.replicate 24 7 ++ List.replicate 8 8 := by
  decide +kernel

@[simp] theorem fixedLengths_length : fixedLengths.length = 288 := by
  rw [fixedLengths, List.length_map, List.length_range]

theorem fixedLengths_getD (hs : sym < 288) : fixedLengths.getD sym 0 = fixedLength sym := by
  rw [List.getD_eq_getElem _ _ (by simpa using hs)]
  simp [fixedLengths]

theorem fixedLength_ne_zero (sym : Nat) : fixedLength sym ≠ 0 := by
  unfold fixedLength
  split_ifs <;> decide

/-- The four runs take 2^15 of 2^15: the code is complete (R180). -/
theorem fixedLengths_acceptable : acceptable fixedLengths := by
  rw [fixedLengths_eq_runs]
  constructor
  · intro l hl
    simp only [List.mem_append, List.mem_replicate] at hl
    show l ≤ 15
    omega
  · simp only [List.filter_append, List.filter_replicate, List.map_append, List.sum_append, ne_eq, decide_not,
      OfNat.ofNat_ne_zero, decide_false, Bool.not_false, if_true, List.map_replicate, List.sum_replicate]
    decide

/-- How many of the first `sym` symbols have a length, run by run. -/
theorem fixedLengths_count_take (sym l : Nat) : (fixedLengths.take sym).count l =
    (if 8 = l then min sym 144 else 0) + (if 9 = l then min (sym - 144) 112 else 0) +
      (if 7 = l then min (sym - 256) 24 else 0) + (if 8 = l then min (sym - 280) 8 else 0) := by
  simp only [fixedLengths_eq_runs, List.take_append, List.take_replicate, List.count_append, List.count_replicate,
    List.length_append, List.length_replicate, beq_iff_eq, Nat.reduceAdd]

/-- The codes of 30_encoding.md R101, one run of symbols after another. -/
def fixedCode (sym : Nat) : Nat :=
  if sym ≤ 143 then 0x30 + sym else if sym ≤ 255 then 0x190 + (sym - 144)
  else if sym ≤ 279 then sym - 256 else 0xC0 + (sym - 280)

/-- The first code of each length in use (41_huffman.md R152). -/
theorem firstCode_fixedLengths : firstCode (countLengths fixedLengths) 7 = 0 ∧
    firstCode (countLengths fixedLengths) 8 = 0x30 ∧ firstCode (countLengths fixedLengths) 9 = 0x190 := by
  decide +kernel

/-- The codes of R101 are the canonical codes of FIXED_LL. -/
theorem canonicalCode_fixedLengths (hs : sym < 288) : canonicalCode fixedLengths sym = fixedCode sym := by
  obtain ⟨h7, h8, h9⟩ := firstCode_fixedLengths
  rw [canonicalCode_eq, fixedLengths_getD hs, fixedLengths_count_take, fixedLength, fixedCode]
  split_ifs <;> omega

/-- Every symbol stands on the leaf its code of R101 leads to. -/
theorem builtTree_follow_fixedCode (hs : sym < 288) :
    (builtTree fixedLengths).follow (fixedLength sym) (fixedCode sym) = Tree.leaf sym := by
  have hlen := fixedLengths_getD hs
  have h := builtTree_follow_canonicalCode fixedLengths_acceptable (by simpa using hs)
    (hlen ▸ fixedLength_ne_zero sym)
  rwa [hlen, canonicalCode_fixedLengths hs] at h

/-! ### The block header -/

/-- What a fixed block leaves of its table (R181). -/
theorem fixedSetup_ok (s : State) : fixedSetup s =
    .ok () { State.afterBuild { s with llcl := fixedLengths } .llt with dtPresent := false } := by
  -- For any state, so that no table is evaluated here.
  have hbuild : ∀ s : State, acceptable s.llcl → htBuild .llt s = .ok () (s.afterBuild .llt) :=
    fun _ h => htBuild_of_acceptable h
  rw [fixedSetup, M.modify_bind, M.bind_of_ok _ (hbuild _ fixedLengths_acceptable), M.modify_apply]

/-- The state in which the expander of a block begins whose literal/length table is `table` and whose distances are
raw (R181, 46_decode_loop.md R262). -/
def State.enterFixed (s : State) (f : Bool) (table : List Nat) : State :=
  { State.afterBuild { s.enterBlock f 1 with llcl := table } .llt with dtPresent := false, phase := .expand }

theorem State.enterFixed_frame (s : State) (f : Bool) (table : List Nat) :
    s.enterFixed f table = { s with
      bfinal := f, btype := 1, fsm := .dispatching, phase := (s.enterFixed f table).phase, dtPresent := false,
      llcl := (s.enterFixed f table).llcl, llt := (s.enterFixed f table).llt,
      blCount := (s.enterFixed f table).blCount, nextCode := (s.enterFixed f table).nextCode,
      code := (s.enterFixed f table).code } := rfl

@[simp] theorem State.enterFixed_llcl (s : State) (f : Bool) (table : List Nat) :
    (s.enterFixed f table).llcl = table := rfl

@[simp] theorem State.enterFixed_llt (s : State) (f : Bool) (table : List Nat) :
    (s.enterFixed f table).llt = builtTree table := rfl

theorem exec_blkFixed (f : Bool) (s : State) : exec (.blkFixed f) s = .next (s.enterFixed f fixedLengths) := by
  have h : exec (.blkFixed f) s = execBlkFixed f s := rfl
  rw [h]
  refine perform_of_ok ?_
  rw [M.modify_bind, M.bind_of_ok _ (fixedSetup_ok _), M.modify_apply, State.enterFixed]

/-- Settles O22: the table of a fixed block is FIXED_LL, whose codes are those of R101. -/
theorem fixedBlockBuildsTheFixedCode : Obligations.FixedBlockBuildsTheFixedCode := by
  intro f s
  refine ⟨s.enterFixed f fixedLengths, exec_blkFixed f s, s.enterFixed_frame f fixedLengths, ?_⟩
  rw [State.enterFixed_llcl, State.enterFixed_llt]
  have hcode : ∀ sym l c, sym < 288 → fixedLength sym = l → fixedCode sym = c →
      fixedLengths.getD sym 0 = l ∧ (builtTree fixedLengths).follow l c = Tree.leaf sym := by
    rintro sym _ _ hs rfl rfl
    exact ⟨fixedLengths_getD hs, builtTree_follow_fixedCode hs⟩
  refine ⟨fixedLengths_length, fun sym hi => ?_, fun sym lo hi => ?_, fun sym lo hi => ?_, fun sym lo hi => ?_⟩
  all_goals
    refine hcode sym _ _ (by omega) ?_ ?_
    · rw [fixedLength]; split_ifs <;> omega
    · rw [fixedCode]; split_ifs <;> omega

/-! ### The raw distance field -/

theorem distFetch_lsb (h : s.dtPresent = false) (ho : s.cfg.fixedDistOrder = .lsb) : distFetch s = rbLsb 5 s := by
  rw [distFetch_raw h, ho]

theorem distFetch_msb (h : s.dtPresent = false) (ho : s.cfg.fixedDistOrder = .msb) : distFetch s = rbMsb 5 s := by
  rw [distFetch_raw h, ho]

/-- A distance code is fetched as the word of its number (45_lz77.md R228). -/
theorem fetch_distance {code : Nat} (hport : s.port = none) (hf : s.fsm = .dispatching) (hp : s.phase = .distance)
    (h : distFetch s = .ok code u) : fetch s = .ok ⟨.d, code⟩ { u with dcode := code } := by
  rw [fetch_dispatching hport hf, fetchElement_distance hp, M.bind_of_ok _ h]
  rfl

/-- A five-bit number and its reversal are equal exactly when it is one of the eight palindromes (R182). -/
theorem eq_reversal_iff {v w : Nat} (hv : v < 32) (hw : w < 32) (h : ∀ i, i < 5 → v.testBit i = w.testBit (4 - i)) :
    v = w ↔ v ∈ [0, 4, 10, 14, 17, 21, 27, 31] := by
  have hpalindrome : v = w ↔ ∀ i, i < 5 → v.testBit i = v.testBit (4 - i) := by
    constructor
    · rintro rfl
      exact h
    · intro hself
      refine Nat.eq_of_testBit_eq fun i => ?_
      rcases Nat.lt_or_ge i 5 with hi | hi
      · rw [hself i hi, h (4 - i) (by omega), show 4 - (4 - i) = i by omega]
      · have hpow : 2 ^ 5 ≤ 2 ^ i := Nat.pow_le_pow_right (by decide) hi
        rw [Nat.testBit_lt_two_pow (by omega), Nat.testBit_lt_two_pow (by omega)]
  have hlist : ∀ n < 32, (∀ i, i < 5 → n.testBit i = n.testBit (4 - i)) ↔ n ∈ [0, 4, 10, 14, 17, 21, 27, 31] := by
    decide
  exact hpalindrome.trans (hlist v hv)

/-- Settles O58: the two orders read one field from its two ends. -/
theorem fixedDistanceOrdersAgreeOnPalindromes : Obligations.FixedDistanceOrdersAgreeOnPalindromes := by
  intro s hport hf hp hdt hb
  have hlsb := (distFetch_lsb (s := { s with cfg := ⟨.lsb⟩ }) hdt rfl).trans (rbLsb_ok hb)
  have hmsb := (distFetch_msb (s := { s with cfg := ⟨.msb⟩ }) hdt rfl).trans (rbMsb_ok hb)
  have hrev : ∀ i, i < 5 → (s.input.lsbField s.cur 5).testBit i = (s.input.msbField s.cur 5).testBit (4 - i) :=
    fun i hi => s.input.testBit_lsbField_reverse s.cur hi
  have hv := s.input.lsbField_lt s.cur 5
  have hw := s.input.msbField_lt s.cur 5
  exact ⟨_, _, _, _, fetch_distance hport hf hp hlsb, fetch_distance hport hf hp hmsb, hv, hw, hrev,
    eq_reversal_iff hv hw hrev⟩

end Sys2Proof.Machine
end

section
/-! PROOF. FIXED_DIST_ORDER (43_fixed.md R182, decision D1). A piece of pseudocode is blind to the order when, run under
either, it does the same; pieces made of blind pieces are blind. The one piece that is not is DIST.FETCH of a fixed
block, and a step with an empty port runs it only where a match of such a block waits for its distance. -/

namespace Sys2Proof.Machine

variable {α β : Type}

/-! ### Blind pieces of pseudocode -/

/-- The same state of a machine with the given order. -/
def State.withOrder (s : State) (o : BitOrder) : State := { s with cfg := ⟨o⟩ }

/-- The same end of a piece on a machine with the given order. -/
def endWithOrder (o : BitOrder) : EStateM.Result Trap State α → EStateM.Result Trap State α
  | .ok a t => .ok a (t.withOrder o)
  | .error e t => .error e (t.withOrder o)

/-- Run from `s`, the piece does the same under either order. -/
def BlindAt (m : M α) (s : State) : Prop := ∀ o, m (s.withOrder o) = endWithOrder o (m s)

/-- The piece does the same under either order wherever it is run. -/
def Blind (m : M α) : Prop := ∀ s, BlindAt m s

section
variable {m : M α} {s t : State}

theorem blindAt_of_ok {a : α} (h : m s = .ok a t) (ho : ∀ o, m (s.withOrder o) = .ok a (t.withOrder o)) :
    BlindAt m s := fun o => by
  rw [h, ho o]
  rfl

theorem blindAt_of_error {e : Trap} (h : m s = .error e t)
    (ho : ∀ o, m (s.withOrder o) = .error e (t.withOrder o)) : BlindAt m s := fun o => by
  rw [h, ho o]
  rfl

/-- What a piece does where it runs as another does, under either order. -/
theorem blindAt_of_eq {n : M α} (h : m s = n s) (ho : ∀ o, m (s.withOrder o) = n (s.withOrder o))
    (hn : BlindAt n s) : BlindAt m s := fun o => by
  rw [h, ho o, hn o]

theorem BlindAt.bind {f : α → M β} (hm : BlindAt m s) (hf : ∀ a, Blind (f a)) : BlindAt (m >>= f) s := by
  intro o
  have h := hm o
  cases hs : m s with
  | ok a t =>
    rw [hs] at h
    rw [M.bind_of_ok f hs, M.bind_of_ok f h, hf a t o]
  | error e t =>
    rw [hs] at h
    rw [M.bind_of_error f hs, M.bind_of_error f h]
    rfl

end

theorem Blind.bind {m : M α} {f : α → M β} (hm : Blind m) (hf : ∀ a, Blind (f a)) : Blind (m >>= f) :=
  fun s => (hm s).bind hf

theorem Blind.returns (a : α) : Blind (pure a : M α) := fun _ _ => rfl
theorem Blind.raises (c : Cause) : Blind (raise c : M α) := fun _ _ => rfl
theorem Blind.refuses (r : Refusal) : Blind (refuse r : M α) := fun _ _ => rfl

theorem Blind.modifies {g : State → State} (h : ∀ s o, g (s.withOrder o) = (g s).withOrder o) :
    Blind (modify g : M PUnit) := fun s o => congrArg (EStateM.Result.ok PUnit.unit) (h s o)

/-- Reading the state, where what is read is not the order. -/
theorem Blind.reads {f : State → M β} (h : ∀ s o, f (s.withOrder o) = f s) (hf : ∀ s, Blind (f s)) :
    Blind ((get : M State) >>= f) := fun s o => by
  rw [M.get_bind, M.get_bind, h s o]
  exact hf s s o

theorem Blind.ite {p : Prop} [Decidable p] {m n : M α} (hm : Blind m) (hn : Blind n) :
    Blind (if p then m else n) := by
  split
  · exact hm
  · exact hn

/-! ### The BitReader and HT -/

theorem rbBit_blind : Blind rbBit := by
  intro s
  by_cases h : s.hasBits 1
  · exact blindAt_of_ok (rbBit_ok h) fun _ => rbBit_ok h
  · exact blindAt_of_error (rbBit_short h) fun _ => rbBit_short h

theorem rbLsbLoop_blind (n i v : Nat) : Blind (rbLsbLoop n i v) := by
  induction n generalizing i v with
  | zero => exact .returns v
  | succ n ih => exact .bind rbBit_blind fun _ => ih _ _

theorem rbLsb_blind (n : Nat) : Blind (rbLsb n) := rbLsbLoop_blind n 0 0

theorem rbBytes_blind (n : Nat) : Blind (rbBytes n) := by
  intro s
  by_cases ha : s.cur % 8 = 0
  · by_cases h : s.cur / 8 + n ≤ s.inLen
    · exact blindAt_of_ok (rbBytes_ok ha h) fun _ => rbBytes_ok ha h
    · exact blindAt_of_error (rbBytes_short ha (Nat.not_le.mp h)) fun _ => rbBytes_short ha (Nat.not_le.mp h)
  · exact blindAt_of_error (rbBytes_unaligned ha) fun _ => rbBytes_unaligned ha

theorem rbAlign_blind : Blind rbAlign := fun s =>
  blindAt_of_ok (rbAlign_ok s) fun o => rbAlign_ok (s.withOrder o)

/-- Whichever table the tree is built from, it is not the configuration. -/
theorem htBuild_blind (t : TreeSel) : Blind (htBuild t) := by
  intro s
  cases h : overSubscribed (countLengths (s.lengthsOf t)) with
  | true => cases t <;> exact blindAt_of_error (htBuild_over h) fun _ => htBuild_over h
  | false => cases t <;> exact blindAt_of_ok (htBuild_ok h) fun _ => htBuild_ok h

theorem descend_blind (tree : Tree) : Blind tree.descend := by
  induction tree with
  | none => exact .refuses _
  | node x y sym ihx ihy =>
    refine .ite ?_ (.bind rbBit_blind fun b => .ite (.ite (.raises _) ihy) (.ite (.raises _) ihx))
    cases sym with
    | none => exact .raises _
    | some v => exact .returns v

theorem htDecode_blind (t : TreeSel) : Blind (htDecode t) :=
  .reads (fun _ _ => by cases t <;> rfl) fun s => descend_blind (s.tree t)

/-! ### The expander -/

/-- Extra bits, with their number noted before and what follows from them after. -/
theorem extraBits_blind {n : Nat} {g : State → State} {k : Nat → State → State}
    (hg : ∀ s o, g (s.withOrder o) = (g s).withOrder o) (hk : ∀ v s o, k v (s.withOrder o) = (k v s).withOrder o) :
    Blind ((modify g : M PUnit) >>= fun _ => rbLsb n >>= fun v => (modify (k v) : M PUnit)) :=
  .bind (.modifies hg) fun _ => .bind (rbLsb_blind n) fun v => .modifies (hk v)

theorem lengthSymbol_blind (sym : Nat) : Blind (lengthSymbol sym) :=
  .ite (.modifies fun _ _ => rfl) <| .ite (.modifies fun _ _ => rfl) <|
    extraBits_blind (fun _ _ => rfl) fun _ _ _ => rfl

theorem thenDistance_blind {m : M Unit} (h : Blind m) : Blind (thenDistance m) :=
  .bind h fun _ => .modifies fun _ _ => rfl

theorem literalLengthMeaning_blind (sym : Nat) : Blind (literalLengthMeaning sym) :=
  .ite (.modifies fun _ _ => rfl) <| .ite (.modifies fun _ _ => rfl) <|
    .ite (thenDistance_blind (lengthSymbol_blind sym)) (.raises _)

/-- In a dynamic block the distance code comes through `DT` (45_lz77.md R228). -/
theorem distFetch_blindAt {s : State} (h : s.dtPresent = true) : BlindAt distFetch s :=
  blindAt_of_eq (distFetch_tree h) (fun _ => distFetch_tree h) (descend_blind s.dt s)

theorem distanceCode_blind (code : Nat) : Blind (distanceCode code) :=
  .ite (.raises _) <| .ite (.modifies fun _ _ => rfl) <|
    extraBits_blind (fun _ _ => rfl) fun _ _ _ => rfl

theorem windowCheck_blind : Blind windowCheck := .reads (fun _ _ => rfl) fun _ => .ite (.returns _) (.raises _)

theorem copyByte_blind : Blind copyByte := by
  intro s
  by_cases h : 1 ≤ s.distance ∧ s.distance ≤ s.outLen
  · exact blindAt_of_ok (copyByte_ok h.1 h.2) fun _ => copyByte_ok h.1 h.2
  · have hout : s.distance = 0 ∨ s.outLen < s.distance := by omega
    exact blindAt_of_error (copyByte_outside hout) fun _ => copyByte_outside hout

theorem copyBytes_blind (n : Nat) : Blind (copyBytes n) := by
  induction n with
  | zero => exact .returns _
  | succ n ih => exact .bind copyByte_blind fun _ => ih

theorem copyMatch_blind : Blind copyMatch := .reads (fun _ _ => rfl) fun s => copyBytes_blind s.length

theorem thenCopy_blind {m : M Unit} (h : Blind m) : Blind (thenCopy m) :=
  .bind h fun _ => .bind windowCheck_blind fun _ => .bind copyMatch_blind fun _ => .modifies fun _ _ => rfl

/-! ### The block decoders -/

theorem State.appendAll_withOrder (s : State) (data : List Byte) (o : BitOrder) :
    (s.withOrder o).appendAll data = (s.appendAll data).withOrder o := by
  induction data generalizing s with
  | nil => rfl
  | cons b data ih => exact ih (s.append b)

theorem storedBody_blind : Blind storedBody :=
  .bind rbAlign_blind fun _ =>
    .bind (rbLsb_blind 16) fun _ => .bind (.modifies fun _ _ => rfl) fun _ =>
    .bind (rbLsb_blind 16) fun _ => .bind (.modifies fun _ _ => rfl) fun _ =>
    .reads (fun _ _ => rfl) fun _ =>
      .ite (.bind (rbBytes_blind _) fun data => .modifies fun s o => s.appendAll_withOrder data o) (.raises _)

theorem fixedSetup_blind : Blind fixedSetup :=
  .bind (.modifies fun _ _ => rfl) fun _ => .bind (htBuild_blind .llt) fun _ => .modifies fun _ _ => rfl

theorem headerMeaning_blind (bits : Nat) : Blind (headerMeaning bits) := by
  unfold headerMeaning
  split
  · exact .modifies fun _ _ => rfl
  · exact .bind (.modifies fun _ _ => rfl) fun _ => .bind fixedSetup_blind fun _ => .modifies fun _ _ => rfl
  · exact .modifies fun _ _ => rfl
  · exact .bind (.modifies fun _ _ => rfl) fun _ => .raises _
  · exact .refuses _

/-- A header count: a field is read into its register, and the next field is waited for. -/
theorem readThenWait_blind {n : Nat} {g : Nat → State → State} {p : State → State}
    (hg : ∀ v s o, g v (s.withOrder o) = (g v s).withOrder o) (hp : ∀ s o, p (s.withOrder o) = (p s).withOrder o) :
    Blind ((rbLsb n >>= fun v => modify (g v)) >>= fun _ => modify p : M PUnit) :=
  .bind (.bind (rbLsb_blind n) fun v => .modifies (hg v)) fun _ => .modifies hp

theorem fieldMeaning_blind (bits : Nat) : Blind (fieldMeaning bits) := by
  unfold fieldMeaning
  split
  · exact readThenWait_blind (fun _ _ _ => rfl) fun _ _ => rfl
  · exact readThenWait_blind (fun _ _ _ => rfl) fun _ _ => rfl
  · exact readThenWait_blind (fun _ _ _ => rfl) fun _ _ => rfl
  · exact .refuses _

theorem readClclEntries_blind (places : List Nat) : Blind (readClclEntries places) := by
  induction places with
  | nil => exact .returns _
  | cons place places ih =>
    exact .bind (rbLsb_blind 3) fun _ => .bind (.modifies fun _ _ => rfl) fun _ => ih

theorem readClcl_blind : Blind readClcl :=
  .bind (.modifies fun _ _ => rfl) fun _ => .reads (fun _ _ => rfl) fun _ => readClclEntries_blind _

theorem State.emitLength_withOrder (s : State) (v : Nat) (o : BitOrder) :
    (s.withOrder o).emitLength v = (s.emitLength v).withOrder o := by
  cases h : s.seqTable <;> simp [State.emitLength, State.withOrder, h]

theorem State.emitLengths_withOrder (s : State) (v n : Nat) (o : BitOrder) :
    (s.withOrder o).emitLengths v n = (s.emitLengths v n).withOrder o := by
  induction n generalizing s with
  | zero => rfl
  | succ n ih => rw [State.emitLengths, State.emitLength_withOrder, ih, State.emitLengths]

theorem emitRun_blind (v : Nat) : Blind (emitRun v) := by
  intro s
  by_cases h : s.cli + s.rep ≤ s.seqLen s.seqTable
  · refine blindAt_of_ok (emitRun_ok h) fun o => ?_
    rw [← State.emitLengths_withOrder]
    exact emitRun_ok (s := s.withOrder o) h
  · exact blindAt_of_error (emitRun_over (Nat.not_le.mp h)) fun _ => emitRun_over (Nat.not_le.mp h)

/-- The extra bits of a run, and the run. -/
theorem readRun_blind (n v : Nat) {g : Nat → State → State}
    (hg : ∀ raw s o, g raw (s.withOrder o) = (g raw s).withOrder o) :
    Blind (rbLsb n >>= fun raw => (modify (g raw) : M PUnit) >>= fun _ => emitRun v) :=
  .bind (rbLsb_blind n) fun raw => .bind (.modifies (hg raw)) fun _ => emitRun_blind v

theorem codeLengthSymbol_blind (sym : Nat) : Blind (codeLengthSymbol sym) := by
  refine .ite (.modifies fun s o => s.emitLength_withOrder sym o) <|
    .ite (.reads (fun _ _ => rfl) fun s => .ite (.raises _) ?_) <| .ite ?_ ?_
  · exact readRun_blind 2 _ fun _ _ _ => rfl
  · exact readRun_blind 3 0 fun _ _ _ => rfl
  · exact readRun_blind 7 0 fun _ _ _ => rfl

theorem endSequence_blind (t : SeqTable) : Blind (endSequence t) := by
  cases t with
  | ll => exact .modifies fun _ _ => rfl
  | d =>
    exact .bind (.bind (htBuild_blind .llt) fun _ => .bind (htBuild_blind .dt) fun _ => .modifies fun _ _ => rfl)
      fun _ => .modifies fun _ _ => rfl

/-! ### Fetch, run, settle -/

/-- The state waits for the raw distance field of a fixed block (R182). -/
def State.AtRawDistance (s : State) : Prop := s.fsm = .dispatching ∧ s.phase = .distance ∧ s.dtPresent = false

theorem readHeader_blind : Blind readHeader :=
  .bind rbBit_blind fun _ => .bind (rbLsb_blind 2) fun _ => .returns _

/-- A symbol read through a tree goes to its register. -/
theorem readSymbol_blind (t : TreeSel) (f : Format) {g : Nat → State → State}
    (hg : ∀ v s o, g v (s.withOrder o) = (g v s).withOrder o) :
    Blind (htDecode t >>= fun v => (modify (g v) : M PUnit) >>= fun _ => pure (⟨f, v⟩ : ElementWord)) :=
  .bind (htDecode_blind t) fun v => .bind (.modifies (hg v)) fun _ => .returns _

theorem fetchElement_blindAt {s : State} (h : s.phase = .distance → s.dtPresent = true) :
    BlindAt fetchElement s := by
  cases hp : s.phase
  case codeLengths =>
    exact blindAt_of_eq (fetchElement_codeLengths hp) (fun _ => fetchElement_codeLengths hp)
      (readSymbol_blind .clt .cl (fun _ _ _ => rfl) s)
  case expand =>
    exact blindAt_of_eq (fetchElement_expand hp) (fun _ => fetchElement_expand hp)
      (readSymbol_blind .llt .ll (fun _ _ _ => rfl) s)
  case distance =>
    exact blindAt_of_eq (fetchElement_distance hp) (fun _ => fetchElement_distance hp)
      ((distFetch_blindAt (h hp)).bind fun _ => .bind (.modifies fun _ _ => rfl) fun _ => .returns _)
  all_goals
    intro o
    have hp' : (s.withOrder o).phase = _ := hp
    simp only [fetchElement, M.get_bind, hp, hp']
    rfl

theorem fetch_blindAt {s : State} (hport : s.port = none) (h : ¬ s.AtRawDistance) : BlindAt fetch s := by
  cases hf : s.fsm with
  | readingHeader =>
    exact blindAt_of_eq (fetch_readingHeader hport hf) (fun _ => fetch_readingHeader hport hf)
      ((readHeader_blind s).bind fun _ => .returns _)
  | dispatching =>
    refine blindAt_of_eq (fetch_dispatching hport hf) (fun _ => fetch_dispatching hport hf)
      (fetchElement_blindAt fun hp => ?_)
    by_contra hdt
    exact h ⟨hf, hp, Bool.eq_false_iff.mpr hdt⟩
  | done =>
    have ho : s.over = true := (State.over_iff s).mpr (.inl hf)
    exact blindAt_of_ok (fetch_over hport ho) fun _ => fetch_over hport ho
  | fault =>
    have ho : s.over = true := (State.over_iff s).mpr (.inr hf)
    exact blindAt_of_ok (fetch_over hport ho) fun _ => fetch_over hport ho

theorem elementMeaning_blind (w : ElementWord) : Blind (elementMeaning w) := by
  obtain ⟨format, k⟩ := w
  cases format with
  | bh => exact headerMeaning_blind k
  | st => exact .bind storedBody_blind fun _ => .modifies fun _ _ => rfl
  | dh => exact fieldMeaning_blind k
  | cll => exact .bind readClcl_blind fun _ => .modifies fun _ _ => rfl
  | cl => exact .ite (codeLengthSymbol_blind k) (.refuses _)
  | ll => exact literalLengthMeaning_blind k
  | d => exact thenCopy_blind (distanceCode_blind k)
  | op => exact .modifies fun _ _ => rfl

theorem settle_blind : Blind settle := by
  intro s
  cases ho : s.over with
  | true => exact blindAt_of_ok (settle_over ho) fun _ => settle_over ho
  | false =>
    cases hp : s.phase
    case buildClt =>
      exact blindAt_of_eq (settle_buildClt ho hp) (fun _ => settle_buildClt ho hp)
        ((htBuild_blind .clt s).bind fun _ => .modifies fun _ _ => rfl)
    case codeLengths =>
      exact blindAt_of_eq (settle_codeLengths ho hp) (fun _ => settle_codeLengths ho hp)
        (Blind.ite (endSequence_blind _) (.returns _) s)
    case returned => exact blindAt_of_ok (settle_returned ho hp) fun _ => settle_returned ho hp
    all_goals
      obtain ⟨h1, h2, h3⟩ : s.phase ≠ .buildClt ∧ s.phase ≠ .codeLengths ∧ s.phase ≠ .returned := by simp [hp]
      exact blindAt_of_ok (settle_waiting h1 h2 h3) fun _ => settle_waiting h1 h2 h3

theorem element_blindAt {s : State} (hport : s.port = none) (h : ¬ s.AtRawDistance) : BlindAt element s :=
  (fetch_blindAt hport h).bind fun w => .bind (elementMeaning_blind w) fun _ => settle_blind

/-! ### The obligation -/

/-- A blind piece answers the same next state under either order; a fault takes nothing from it. -/
theorem BlindAt.perform_next {m : M Unit} {s t : State} (hm : BlindAt m s) (h : perform m s = .next t)
    (o : BitOrder) : perform m (s.withOrder o) = .next (t.withOrder o) := by
  have ho := hm o
  obtain hok | ⟨c, u, herr, rfl⟩ := Machine.perform_next h
  · rw [hok] at ho
    exact perform_of_ok ho
  · rw [herr] at ho
    exact perform_of_raise ho

/-- Settles O57: elsewhere a step is a piece of pseudocode that is blind to the order. -/
theorem onlyTheFixedDistanceFieldSeesTheOrder : Obligations.OnlyTheFixedDistanceFieldSeesTheOrder := by
  intro s t o hport hraw h
  rw [step_eq_perform hport] at h
  have hport' : (s.withOrder o).port = none := hport
  exact (step_eq_perform hport').trans ((element_blindAt hport hraw).perform_next h o)

end Sys2Proof.Machine
end

section
/-! PROOF. The dynamic header (44_dynamic.md R191 to R194): its three counts, and the lengths of the code-length
alphabet in the order they come. -/

namespace Sys2Proof.Machine

variable {s t : State}

/-! ### The counts -/

theorem exec_dhHlit (s : State) :
    exec .dhHlit s = perform (readHlit >>= fun _ => modify fun s => { s with phase := .hdist }) s := rfl

theorem exec_dhHdist (s : State) :
    exec .dhHdist s = perform (readHdist >>= fun _ => modify fun s => { s with phase := .hclen }) s := rfl

theorem exec_dhHclen (s : State) :
    exec .dhHclen s = perform (readHclen >>= fun _ => modify fun s => { s with phase := .clcl }) s := rfl

/-- A count whose bits are missing (R191 to R193). -/
theorem readCount_short {n : Nat} {g : Nat → State → State} (hc : s.cur ≤ 8 * s.inLen) (h : ¬ s.hasBits n) :
    ∃ t, (rbLsb n >>= fun raw => modify (g raw) : M PUnit) s = .error (.raise .streamTruncated) t := by
  obtain ⟨t, ht⟩ := rbLsb_short hc h
  exact ⟨t, M.bind_of_error _ ht⟩

/-- A header field and the next phase: the piece's own outcome decides. -/
theorem perform_then_of_ok {m : M Unit} {g : State → State} (h : m s = .ok () t) :
    perform (m >>= fun _ => modify g) s = .next (g t) :=
  perform_of_ok (M.bind_of_ok _ h)

theorem perform_then_raises {m : M Unit} {g : State → State} {c : Cause}
    (h : ∃ t, m s = .error (.raise c) t) : Raises (perform (m >>= fun _ => modify g) s) c := by
  obtain ⟨t, ht⟩ := h
  exact perform_raises (M.bind_of_error _ ht)

/-- Settles O26: each count is a field of the stream and its bias. -/
theorem dynamicHeaderCountsAreBiased : Obligations.DynamicHeaderCountsAreBiased := by
  intro s hc
  have h5 : s.input.lsbField s.cur 5 < 32 := s.input.lsbField_lt s.cur 5
  have h4 : s.input.lsbField s.cur 4 < 16 := s.input.lsbField_lt s.cur 4
  rw [exec_dhHlit, exec_dhHdist, exec_dhHclen]
  refine ⟨fun hb => ⟨_, perform_then_of_ok (readHlit_ok hb)⟩, fun hb => ?_,
    fun hb => ⟨_, perform_then_of_ok (readHdist_ok hb)⟩, fun hb => ?_,
    fun hb => ⟨_, perform_then_of_ok (readHclen_ok hb)⟩, fun hb => ?_, by omega, by omega, by omega⟩
  all_goals exact perform_then_raises (readCount_short hc hb)

/-! ### The lengths of the code-length alphabet -/

/-- One entry of a table is written. -/
theorem getD_set {table : List Nat} {i : Nat} (hi : i < table.length) (v j : Nat) :
    (table.set i v).getD j 0 = if j = i then v else table.getD j 0 := by
  rw [List.getD_eq_getElem?_getD, List.getD_eq_getElem?_getD, List.getElem?_set]
  by_cases hj : j = i
  · rw [if_pos hj.symm, if_pos hi, if_pos hj, Option.getD_some]
  · rw [if_neg (Ne.symm hj), if_neg hj]

/-- Each place of a list without repetitions gets its length, the others keep theirs (R194). -/
theorem readClclEntries_ok {places : List Nat} (hplaces : places.Nodup) (hlt : ∀ p ∈ places, p < s.clcl.length)
    (hb : s.hasBits (3 * places.length)) :
    ∃ table, readClclEntries places s = .ok () { s with cur := s.cur + 3 * places.length, clcl := table } ∧
      table.length = s.clcl.length ∧
      (∀ i p, places[i]? = some p → table.getD p 0 = s.input.lsbField (s.cur + 3 * i) 3) ∧
      ∀ p, p ∉ places → table.getD p 0 = s.clcl.getD p 0 := by
  induction places generalizing s with
  | nil => exact ⟨s.clcl, rfl, rfl, nofun, fun _ _ => rfl⟩
  | cons place places ih =>
    obtain ⟨hplace, hrest⟩ := List.nodup_cons.mp hplaces
    have hset := getD_set (hlt place List.mem_cons_self) (s.input.lsbField s.cur 3)
    have hnext (i : Nat) : s.cur + 3 * (i + 1) = s.cur + 3 + 3 * i := by omega
    rw [List.length_cons, Nat.mul_succ, Nat.add_comm] at hb
    obtain ⟨table, hread, hlen, hlisted, hkept⟩ := ih
      (s := { s with cur := s.cur + 3, clcl := s.clcl.set place (s.input.lsbField s.cur 3) }) hrest
      (fun p hp => by simpa using hlt p (List.mem_cons_of_mem _ hp)) (State.hasBits_right hb)
    refine ⟨table, ?_, by simpa using hlen, fun i p hi => ?_, fun p hp => ?_⟩
    · rw [readClclEntries, M.bind_of_ok _ (rbLsb_ok (State.hasBits_left hb)), M.modify_bind, hread,
        List.length_cons, hnext]
    · cases i with
      | zero =>
        obtain rfl : place = p := by simpa using hi
        rw [hkept place hplace, hset, if_pos rfl]
        rfl
      | succ i =>
        rw [hnext]
        exact hlisted i p (by simpa using hi)
    · obtain ⟨hne, hnot⟩ := not_or.mp (mt List.mem_cons.mpr hp)
      rw [hkept p hnot, hset, if_neg hne]

theorem readClclEntries_short {places : List Nat} (hc : s.cur ≤ 8 * s.inLen)
    (h : ¬ s.hasBits (3 * places.length)) : ∃ t, readClclEntries places s = .error (.raise .streamTruncated) t := by
  induction places generalizing s with
  | nil => exact absurd hc h
  | cons place places ih =>
    by_cases hb : s.hasBits 3
    · obtain ⟨t, ht⟩ := ih
        (s := { s with cur := s.cur + 3, clcl := s.clcl.set place (s.input.lsbField s.cur 3) }) hb
        (by simp only [State.hasBits, List.length_cons] at *; omega)
      exact ⟨t, by rw [readClclEntries, M.bind_of_ok _ (rbLsb_ok hb), M.modify_bind, ht]⟩
    · obtain ⟨t, ht⟩ := rbLsb_short hc hb
      exact ⟨t, M.bind_of_error _ ht⟩

/-- ORDER is a permutation of the code-length alphabet (30_encoding.md R95). -/
theorem codeLengthOrder_nodup : codeLengthOrder.Nodup := by decide

theorem codeLengthOrder_lt : ∀ p ∈ codeLengthOrder, p < clSize := by decide

theorem readClcl_apply (s : State) : readClcl s =
    readClclEntries (codeLengthOrder.take s.hclen) { s with clcl := List.replicate clSize 0 } := rfl

theorem length_take_codeLengthOrder (h : s.hclen ≤ 19) : (codeLengthOrder.take s.hclen).length = s.hclen :=
  List.length_take_of_le h

theorem exec_dhClcl (s : State) :
    exec .dhClcl s = perform (readClcl >>= fun _ => modify fun s => { s with phase := .buildClt }) s := rfl

/-- The listed places of ORDER hold the lengths read, the others 0 (R194). -/
theorem readClcl_ok (hh : s.hclen ≤ 19) (hb : s.hasBits (3 * s.hclen)) :
    ∃ table, readClcl s = .ok () { s with cur := s.cur + 3 * s.hclen, clcl := table } ∧ table.length = 19 ∧
      ∀ i, i < 19 → table.getD (codeLengthOrder.getD i 0) 0 =
        if i < s.hclen then s.input.lsbField (s.cur + 3 * i) 3 else 0 := by
  have hlength := length_take_codeLengthOrder hh
  obtain ⟨table, hread, hlen, hlisted, hkept⟩ := readClclEntries_ok
    (s := { s with clcl := List.replicate clSize 0 }) (places := codeLengthOrder.take s.hclen)
    (codeLengthOrder_nodup.sublist (List.take_sublist _ _))
    (fun p hp => by simpa using codeLengthOrder_lt p (List.mem_of_mem_take hp)) (by rwa [hlength])
  rw [hlength] at hread
  refine ⟨table, (readClcl_apply s).trans hread, by simpa using hlen, fun i hi => ?_⟩
  have hplace : codeLengthOrder[i]? = some (codeLengthOrder.getD i 0) := by
    rw [List.getD_eq_getElem _ _ hi, List.getElem?_eq_getElem hi]
  split_ifs with h
  · exact hlisted i _ (by rw [List.getElem?_take_of_lt h, hplace])
  · have hunlisted : codeLengthOrder.getD i 0 ∉ codeLengthOrder.take s.hclen := fun hmem =>
      List.disjoint_take_drop codeLengthOrder_nodup (Nat.le_of_not_lt h) hmem
        (List.mem_of_getElem? (i := 0) (by rw [List.getElem?_drop]; exact hplace))
    exact (hkept _ hunlisted).trans (List.getElem?_getD_replicate_default_eq _ _ _)

theorem readClcl_short (hc : s.cur ≤ 8 * s.inLen) (hh : s.hclen ≤ 19) (h : ¬ s.hasBits (3 * s.hclen)) :
    ∃ t, readClcl s = .error (.raise .streamTruncated) t :=
  readClclEntries_short (s := { s with clcl := List.replicate clSize 0 }) hc
    (by rwa [length_take_codeLengthOrder hh])

/-- Settles O27: ORDER as the model's table spells it. -/
theorem codeLengthLengthsComeInOrder : Obligations.CodeLengthLengthsComeInOrder := by
  intro s hc hh
  rw [exec_dhClcl]
  refine ⟨fun hb => ?_, fun hb => perform_then_raises (readClcl_short hc hh hb)⟩
  obtain ⟨table, hread, hlen, hentries⟩ := readClcl_ok hh hb
  exact ⟨_, perform_then_of_ok hread, rfl, hlen, hentries⟩

end Sys2Proof.Machine
end

section
/-! PROOF. The code-length symbols (44_dynamic.md R197 to R202). The three runs are one piece of pseudocode with its
bits, its count and its length as arguments, so each of its three outcomes is proved once. -/

namespace Sys2Proof.Machine

variable {s t : State} {n v : Nat}

/-! ### The entries of the running sequence -/

theorem State.emitLength_of_ll (h : s.seqTable = .ll) (v : Nat) :
    s.emitLength v = { s with llcl := s.llcl.set s.cli v, cli := s.cli + 1 } := by
  rw [State.emitLength, h]

theorem State.emitLength_of_d (h : s.seqTable = .d) (v : Nat) :
    s.emitLength v = { s with dcl := s.dcl.set s.cli v, cli := s.cli + 1 } := by
  rw [State.emitLength, h]

@[simp] theorem State.seqSize_emitLength (s : State) (v : Nat) : (s.emitLength v).seqSize = s.seqSize := by
  cases h : s.seqTable <;> simp [State.seqSize, h]

/-- `S[CLI] <- v` (R196). -/
theorem State.seqEntry_emitLength (h : s.cli < s.seqSize) (v j : Nat) :
    (s.emitLength v).seqEntry j = if j = s.cli then v else s.seqEntry j := by
  cases hq : s.seqTable <;> simp only [State.seqSize, hq] at h
  · simpa [State.seqEntry, hq] using getD_set h v j
  · simpa [State.seqEntry, hq] using getD_set h v j

/-- The entries a run wrote, and the others (R196: `repeat REP times`). -/
theorem State.seqEntry_emitLengths (h : s.cli + n ≤ s.seqSize) (v j : Nat) :
    (s.emitLengths v n).seqEntry j = if s.cli ≤ j ∧ j < s.cli + n then v else s.seqEntry j := by
  induction n generalizing s with
  | zero => rw [State.emitLengths, if_neg (by omega)]
  | succ n ih =>
    rw [State.emitLengths, ih (by rw [State.seqSize_emitLength, State.emitLength_cli]; omega),
      State.seqEntry_emitLength (by omega), State.emitLength_cli]
    split_ifs <;> omega

/-- Both tables keep their sizes, and the one that is not running keeps its entries. -/
theorem State.emitLengths_tables (s : State) (v n : Nat) :
    (s.emitLengths v n).llcl.length = s.llcl.length ∧ (s.emitLengths v n).dcl.length = s.dcl.length ∧
    (s.seqTable = .ll → (s.emitLengths v n).dcl = s.dcl) ∧
    (s.seqTable = .d → (s.emitLengths v n).llcl = s.llcl) := by
  induction n generalizing s with
  | zero => exact ⟨rfl, rfl, fun _ => rfl, fun _ => rfl⟩
  | succ n ih =>
    obtain ⟨hll, hd, hkeepd, hkeepll⟩ := ih (s.emitLength v)
    cases hq : s.seqTable <;> simp_all [State.emitLengths]

/-! ### Runs -/

/-- The extra bits of a run, `REP` from them, and the run (R198 to R200). -/
def readRun (n : Nat) (repOf : Nat → Nat) (v : Nat) : M Unit := do
  let raw ← rbLsb n
  modify fun s => { s with rep := repOf raw }
  emitRun v

theorem repeatPrevious_of_pos (h : 0 < s.cli) :
    repeatPrevious s = readRun 2 rep16Of (s.seqEntry (s.cli - 1)) s := by
  simp only [repeatPrevious, readRun, M.get_bind, if_neg h.ne']

theorem repeatZero17_eq : repeatZero17 = readRun 3 zero17Of 0 := rfl

theorem repeatZero18_eq : repeatZero18 = readRun 7 zero18Of 0 := rfl

/-- A run that fits is emitted after its extra bits (R202). -/
theorem runEmitted_emitLengths (v rep ebits : Nat) (h : s.cli + rep ≤ s.seqSize) :
    RunEmitted s (State.emitLengths { s with cur := s.cur + ebits, rep := rep } v rep) v rep ebits := by
  obtain ⟨hll, hd, hkeepd, hkeepll⟩ :=
    State.emitLengths_tables { s with cur := s.cur + ebits, rep := rep } v rep
  refine ⟨?_, hll, hd, hkeepd, hkeepll, ?_⟩
  · rw [State.emitLengths_frame]
  · exact State.seqEntry_emitLengths (s := { s with cur := s.cur + ebits, rep := rep }) h v

/-- The three outcomes of a run: its extra bits are missing, it does not fit, it is emitted (R198 to R200, R202). -/
theorem readRun_outcomes {m : M Unit} {repOf : Nat → Nat} (hm : m s = readRun n repOf v s)
    (hc : s.cur ≤ 8 * s.inLen) (hsize : s.seqLen s.seqTable ≤ s.seqSize) :
    (¬ s.hasBits n → Raises (perform m s) .streamTruncated) ∧
    (s.hasBits n → s.seqLen s.seqTable < s.cli + repOf (s.input.lsbField s.cur n) →
      Raises (perform m s) .codeLengthRunOverflow) ∧
    (s.hasBits n → s.cli + repOf (s.input.lsbField s.cur n) ≤ s.seqLen s.seqTable →
      ∃ t, perform m s = .next t ∧ RunEmitted s t v (repOf (s.input.lsbField s.cur n)) n) := by
  rw [perform_congr hm]
  have hread : s.hasBits n → readRun n repOf v s =
      emitRun v { s with cur := s.cur + n, rep := repOf (s.input.lsbField s.cur n) } := fun hb => by
    rw [readRun, M.bind_of_ok _ (rbLsb_ok hb), M.modify_bind]
  refine ⟨fun hb => ?_, fun hb hover => ?_, fun hb hfits => ?_⟩
  · obtain ⟨t, ht⟩ := rbLsb_short hc hb
    exact perform_raises (M.bind_of_error _ ht)
  · exact perform_raises ((hread hb).trans (emitRun_over hover))
  · exact ⟨_, perform_of_ok ((hread hb).trans (emitRun_ok hfits)),
      runEmitted_emitLengths _ _ _ (hfits.trans hsize)⟩

/-! ### What a code-length symbol leaves unchanged -/

/-- From `s` to `t` code-length symbols were read and at least one length was emitted: the cursor, `CLSYM`, `REP`,
`CLI` and the tables are all they write (44_dynamic.md R196). -/
structure State.Emitted (s t : State) : Prop where
  frame : t = { s with
    cur := t.cur, clsym := t.clsym, rep := t.rep, cli := t.cli, llcl := t.llcl, dcl := t.dcl }
  cli_lt : s.cli < t.cli

theorem State.Emitted.phase (h : s.Emitted t) : t.phase = s.phase := by
  rw [h.frame]

theorem State.Emitted.port (h : s.Emitted t) : t.port = s.port := by
  rw [h.frame]

theorem State.Emitted.seqLen (h : s.Emitted t) : t.seqLen t.seqTable = s.seqLen s.seqTable := by
  rw [h.frame]
  rfl

/-- A field that was read moved the cursor and nothing else (40_bitreader.md R133). -/
theorem of_rbLsb_ok {raw : Nat} (hn : n ≠ 0) (h : rbLsb n s = .ok raw t) : t = { s with cur := s.cur + n } := by
  by_cases hb : s.hasBits n
  · rw [rbLsb_ok hb] at h
    cases h
    rfl
  · obtain ⟨u, hu⟩ := rbLsb_short_of_pos hn hb
    rw [hu] at h
    cases h

/-- A run that did not fault was written (R202). -/
theorem of_emitRun_ok (h : emitRun v s = .ok () t) : t = s.emitLengths v s.rep := by
  by_cases hfits : s.cli + s.rep ≤ s.seqLen s.seqTable
  · rw [emitRun_ok hfits] at h
    cases h
    rfl
  · rw [emitRun_over (Nat.lt_of_not_le hfits)] at h
    cases h

theorem State.emitted_emitLengths (c r v : Nat) (hn : 0 < n) :
    s.Emitted (State.emitLengths { s with cur := c, rep := r } v n) where
  frame := by rw [State.emitLengths_frame]
  cli_lt := by
    rw [State.emitLengths_frame]
    exact Nat.lt_add_of_pos_right hn

theorem emitted_of_readRun {repOf : Nat → Nat} (hn : n ≠ 0) (hrep : ∀ raw, 0 < repOf raw)
    (h : readRun n repOf v s = .ok () t) : s.Emitted t := by
  obtain ⟨raw, u, hraw, hrun⟩ := M.of_bind_ok h
  obtain rfl := of_rbLsb_ok hn hraw
  rw [M.modify_bind] at hrun
  rw [of_emitRun_ok hrun]
  exact State.emitted_emitLengths _ _ _ (hrep raw)

theorem emitted_of_codeLengthSymbol {sym : Nat} (h : codeLengthSymbol sym s = .ok () t) : s.Emitted t := by
  unfold codeLengthSymbol at h
  split at h
  · cases h
    exact State.emitted_emitLengths s.cur s.rep sym Nat.one_pos
  · split at h
    · rcases Nat.eq_zero_or_pos s.cli with h0 | h0
      · rw [repeatPrevious_first h0] at h
        cases h
      · rw [repeatPrevious_of_pos h0] at h
        exact emitted_of_readRun (by decide) (fun raw => Nat.lt_add_right raw (by decide)) h
    · split at h
      · exact emitted_of_readRun (by decide) (fun raw => Nat.lt_add_right raw (by decide)) h
      · exact emitted_of_readRun (by decide) (fun raw => Nat.lt_add_right raw (by decide)) h

/-! ### The obligations -/

/-- Settles O29: the row's meaning is that of its class. -/
theorem literalLengthsAreEmittedOnce : Obligations.LiteralLengthsAreEmittedOnce := by
  intro k i hk hd s
  have hliteral : codeLengthSymbol k = literalLength k := if_pos hk
  rw [exec_codeLength (encode_of_decode_cl hd), hliteral, perform_of_ok (literalLength_apply k s)]
  exact ⟨fun hq => by rw [State.emitLength_of_ll hq], fun hq => by rw [State.emitLength_of_d hq]⟩

theorem exec_clRep16 (s : State) : exec .clRep16 s = perform repeatPrevious s := rfl

theorem exec_clZero17 (s : State) : exec .clZero17 s = perform repeatZero17 s := rfl

theorem exec_clZero18 (s : State) : exec .clZero18 s = perform repeatZero18 s := rfl

/-- Settles O30: with an entry before it, symbol 16 is a run of that entry. -/
theorem rep16RepeatsThePreviousLength : Obligations.Rep16RepeatsThePreviousLength := by
  intro s hc hsize
  rw [exec_clRep16]
  rcases Nat.eq_zero_or_pos s.cli with h0 | h0
  · exact ⟨fun _ => perform_raises (repeatPrevious_first h0), fun h => absurd h0 h.ne', fun h => absurd h0 h.ne',
      fun h => absurd h0 h.ne'⟩
  · obtain ⟨hshort, hover, hok⟩ := readRun_outcomes (repeatPrevious_of_pos h0) hc hsize
    exact ⟨fun h => absurd h h0.ne', fun _ => hshort, fun _ => hover, fun _ => hok⟩

/-- Settles O31: symbols 17 and 18 are runs of 0. -/
theorem zeroRunsEmitZeros : Obligations.ZeroRunsEmitZeros := by
  intro s hc hsize
  obtain ⟨hshort17, hover17, hok17⟩ := readRun_outcomes (congrFun repeatZero17_eq s) hc hsize
  rw [exec_clZero17, exec_clZero18]
  exact ⟨hshort17, hover17, hok17, readRun_outcomes (congrFun repeatZero18_eq s) hc hsize⟩

end Sys2Proof.Machine
end

section
/-! PROOF. CLSEQ (44_dynamic.md R196). In one piece it is a round per code-length symbol, and a round with the
statements that follow it is a step. -/

namespace Sys2Proof.Machine

variable {s t u : State} {fuel : Nat}

/-! ### The rounds of CLSEQ -/

/-- One round of the loop of CLSEQ: a symbol is decoded and its lengths are emitted (44_dynamic.md R196). -/
def clseqRound : M Unit := do
  let sym ← htDecode .clt
  modify fun s => { s with clsym := sym }
  codeLengthSymbol sym

/-- A complete sequence ends the loop. -/
theorem clseqLoop_complete (h : s.seqLen s.seqTable ≤ s.cli) : clseqLoop fuel s = .ok () s := by
  cases fuel <;> simp only [clseqLoop, M.get_bind, if_pos h, M.pure_apply]

/-- While lengths are missing the loop goes round. -/
theorem clseqLoop_missing (h : s.cli < s.seqLen s.seqTable) :
    clseqLoop (fuel + 1) s = (clseqRound >>= fun _ => clseqLoop fuel) s := by
  simp only [clseqLoop, clseqRound, M.get_bind, if_neg (Nat.not_le.mpr h), bind_assoc]

theorem emitted_of_clseqRound (h : clseqRound s = .ok () t) : s.Emitted t := by
  obtain ⟨sym, u, hsym, hrest⟩ := M.of_bind_ok h
  obtain ⟨l, -, -, rfl⟩ := Tree.of_descend_ok hsym
  obtain ⟨hframe, hcli⟩ := emitted_of_codeLengthSymbol hrest
  exact ⟨hframe, hcli⟩

/-- A round is what the step of a code-length symbol fetches and runs: a decoded symbol is of the alphabet. -/
theorem fetchElement_meaning_codeLengths (hs : s.Sound) (hclt : s.clt.built clSize = true)
    (hp : s.phase = .codeLengths) : (fetchElement >>= elementMeaning) s = clseqRound s := by
  have hfetch := fetchElement_codeLengths hp
  have hsym : Meets (htDecode .clt) s fun sym _ => sym < clSize := htDecode_meets hclt hs.cursor fun _ _ h _ => h
  cases hd : htDecode .clt s with
  | ok sym t =>
    rw [M.bind_of_ok _ hd] at hfetch
    rw [M.bind_of_ok _ hfetch, clseqRound, M.bind_of_ok _ hd, M.modify_bind, elementMeaning,
      if_pos (hsym.ok sym t hd)]
  | error e t =>
    rw [M.bind_of_error _ hd] at hfetch
    rw [M.bind_of_error _ hfetch, clseqRound, M.bind_of_error _ hd]

/-- A round whose code is ahead goes on to the meaning of its symbol (R196). -/
theorem clseqRound_code {l k : Nat} (h : s.codeAhead s.clt l k) :
    clseqRound s = codeLengthSymbol k { s with cur := s.cur + l, clsym := k } := by
  have hsym : htDecode .clt s = .ok k { s with cur := s.cur + l } := Tree.descend_code h
  rw [clseqRound, M.bind_of_ok _ hsym, M.modify_bind]

/-! ### In one piece and step by step -/

theorem M.bind_congr_left {α β : Type} {m m' : M α} (f : α → M β) (h : m s = m' t) :
    (m >>= f) s = (m' >>= f) t := by
  cases hm : m' t with
  | ok a u => rw [M.bind_of_ok f hm, M.bind_of_ok f (h.trans hm)]
  | error e u => rw [M.bind_of_error f hm, M.bind_of_error f (h.trans hm)]

theorem StepsTo.refl (s : State) : StepsTo s s := ⟨0, rfl⟩

theorem StepsTo.cons (h : step s = .next t) (hsteps : StepsTo t u) : StepsTo s u := by
  obtain ⟨k, hk⟩ := hsteps
  have hcore : core.step s = .next t := h
  exact ⟨k + 1, by simp only [Host.Core.run, hcore, hk]⟩

/-- What one step comes to agrees with that step. -/
theorem agreesWithSteps_of_eq_step {o : Host.Outcome State Fault Refusal} (h : step s = .next t) (ho : o = step s) :
    AgreesWithSteps o s := by
  refine ⟨t, t, ho.trans h, .cons h (.refl t), ?_⟩
  by_cases hf : t.fsm = .fault
  · exact .inl ⟨hf, hf, rfl⟩
  · exact .inr ⟨hf, rfl⟩

/-- What agrees with the steps behind a step agrees with that step and those. -/
theorem AgreesWithSteps.cons {o : Host.Outcome State Fault Refusal} (h : step s = .next t)
    (hagree : AgreesWithSteps o t) : AgreesWithSteps o s := by
  obtain ⟨u, w, ho, hsteps, hsame⟩ := hagree
  exact ⟨u, w, ho, .cons h hsteps, hsame⟩

/-- The step of a code-length symbol is a round of CLSEQ and the statements that follow it (R196). -/
theorem step_codeLengths (h : s.InOrder) (hport : s.port = none) (hf : s.fsm = .dispatching)
    (hp : s.phase = .codeLengths) : step s = perform (clseqRound >>= fun _ => settle) s := by
  have hround := fetchElement_meaning_codeLengths h.running.sound (h.running.codeLengths hp).1 hp
  have hfetch := M.bind_congr_left elementMeaning (fetch_dispatching hport hf)
  rw [step_eq_perform hport, element, ← bind_assoc]
  exact perform_congr (M.bind_congr_left _ (hfetch.trans hround))

/-- A round leaves a block decoder that can go on, or raises a fault of the spec. -/
theorem clseqRound_meets (h : s.InOrder) (hf : s.fsm = .dispatching) (hp : s.phase = .codeLengths) :
    Meets clseqRound s fun _ t => t.Busy := by
  have hround := fetchElement_meaning_codeLengths h.running.sound (h.running.codeLengths hp).1 hp
  exact meets_of_eq hround.symm (meets_bind (dispatching_meets h hf))

/-- Inside a sequence there is nothing to do between two symbols (R196). -/
theorem settle_missing (hp : s.phase = .codeLengths) (h : s.cli < s.seqLen s.seqTable) : settle s = .ok () s := by
  cases ho : s.over with
  | true => exact settle_over ho
  | false => rw [settle_codeLengths ho hp, if_neg (Nat.not_le.mpr h), M.pure_apply]

/-- The loop of CLSEQ and the statements that follow it agree with the steps from any point of the sequence. Each
round is a step; after the last one the loop is over and the two go on as one. -/
theorem clseqLoop_agrees (h : s.InOrder) (hport : s.port = none) (hf : s.fsm = .dispatching)
    (hp : s.phase = .codeLengths) (hfuel : s.seqLen s.seqTable ≤ s.cli + fuel) :
    AgreesWithSteps (perform (clseqLoop fuel >>= fun _ => settle) s) s := by
  obtain ⟨-, hmissing⟩ := h.running.codeLengths hp
  induction fuel generalizing s with
  | zero => exact absurd hmissing (Nat.not_lt.mpr hfuel)
  | succ fuel ih =>
    have hstep := step_codeLengths h hport hf hp
    obtain ⟨v, hnext, -⟩ := everyStepKeepsTheRunInOrder s (h.inv hport)
    have hloop := M.bind_congr_left (fun _ => settle) (clseqLoop_missing (fuel := fuel) hmissing)
    rw [bind_assoc] at hloop
    cases hround : clseqRound s with
    | error e t =>
      exact agreesWithSteps_of_eq_step hnext <| (perform_congr (hloop.trans (M.bind_of_error _ hround))).trans
        (hstep.trans (perform_congr (M.bind_of_error _ hround))).symm
    | ok _ t =>
      rw [perform_congr (M.bind_of_ok _ hround)] at hstep
      rw [M.bind_of_ok _ hround] at hloop
      by_cases hdone : t.seqLen t.seqTable ≤ t.cli
      · rw [M.bind_of_ok _ (clseqLoop_complete hdone)] at hloop
        exact agreesWithSteps_of_eq_step hnext ((perform_congr hloop).trans hstep.symm)
      · have hleft := Nat.lt_of_not_le hdone
        have hemitted := emitted_of_clseqRound hround
        have hlen := hemitted.seqLen
        have hcli := hemitted.cli_lt
        have hphase := hemitted.phase.trans hp
        have hbusy := (clseqRound_meets h hf hp).ok () t hround
        have horder := hbusy.inOrder (by simp [hphase]) (by simp [hphase]) fun _ => hleft
        rw [perform_of_ok (settle_missing hphase hleft)] at hstep
        rw [perform_congr hloop]
        exact .cons hstep (ih horder (hemitted.port.trans hport) hbusy.fsm hphase (by omega) hleft)

/-! ### The obligations -/

theorem exec_clseq (q : SeqTable) (s : State) : exec (.clseq q) s = perform (clseqAll q) s := rfl

/-- CLSEQ is its loop from the first length on (R196). -/
theorem clseqAll_apply (q : SeqTable) (s : State) :
    clseqAll q s = clseqLoop (s.seqLen q) (s.beginSequence q) := by cases q <;> rfl

/-- Settles O32: the one round of the loop. -/
theorem clseqReadsASequenceOfOne : Obligations.ClseqReadsASequenceOfOne := by
  intro s l k hone hcode
  have hmissing : (s.beginSequence .d).cli < (s.beginSequence .d).seqLen .d := hone.ge
  have hall : clseqAll .d s = (clseqRound >>= fun _ => clseqLoop 0) (s.beginSequence .d) := by
    rw [clseqAll_apply, show s.seqLen .d = 0 + 1 from hone, clseqLoop_missing hmissing]
  have hround := clseqRound_code (s := s.beginSequence .d) hcode
  rw [exec_clseq, perform_congr hall]
  constructor
  · intro hk
    rw [codeLengthSymbol, if_pos hk] at hround
    exact perform_of_ok ((M.bind_of_ok _ hround).trans (clseqLoop_complete hone.le))
  · rintro rfl
    exact perform_raises (M.bind_of_error _ (hround.trans (repeatPrevious_first rfl)))

/-- Settles O48: beginning the sequence changes nothing where it has just begun, and the loop agrees with the steps. -/
theorem clseqInOnePieceAgreesWithItsElements : Obligations.ClseqInOnePieceAgreesWithItsElements := by
  intro s hinv hf hp hcli
  have hbegun : s.beginSequence s.seqTable = s := by rw [State.beginSequence, ← hcli]
  rw [runInstr_of_exec (exec_clseq s.seqTable s)]
  have hall := clseqAll_apply s.seqTable s
  rw [hbegun] at hall
  rw [perform_congr (M.bind_congr_left _ hall)]
  exact clseqLoop_agrees (hinv.inOrder (by simp [hf])) hinv.portEmpty hf hp (Nat.le_add_left _ _)

end Sys2Proof.Machine
end

section
/-! PROOF. The statements between the elements of a dynamic block (44_dynamic.md R195, R196, R201 to R206), and which
element each element leads to (log 5). -/

namespace Sys2Proof.Machine

variable {s t : State}

/-! ### Between the elements -/

/-- Clearing a table from an index on keeps the entries before it (R203). -/
theorem getD_clearFrom {table : List Nat} {n : Nat} (hn : n ≤ table.length) (m i : Nat) :
    (table.take n ++ List.replicate m 0).getD i 0 = if i < n then table.getD i 0 else 0 := by
  have hlen : (table.take n).length = n := List.length_take_of_le hn
  split_ifs with h
  · rw [List.getD_append _ _ _ _ (by rwa [hlen])]
    simp only [List.getD_eq_getElem?_getD, List.getElem?_take_of_lt h]
  · rw [List.getD_append_right _ _ _ _ (by rw [hlen]; exact Nat.le_of_not_lt h)]
    exact List.getElem?_getD_replicate_default_eq _ _ _

/-- Settles O28: each clause is the branch of the statements between two elements that its phase takes. -/
theorem dynamicBlockGoesOnBetweenElements : Obligations.DynamicBlockGoesOnBetweenElements := by
  intro s ho
  refine ⟨fun hp => ⟨fun u hu => ?_, fun c u hu => ?_⟩, fun hp h => perform_of_ok (settle_missing hp h),
    fun hp hq hcli hlen => ?_, fun hp hq hcli => ?_⟩
  · exact perform_of_ok ((settle_buildClt ho hp).trans (M.bind_of_ok _ hu))
  · exact perform_raises ((settle_buildClt ho hp).trans (M.bind_of_error _ hu))
  · have hsettle := settle_codeLengths ho hp
    rw [hq, if_pos (show s.seqLen .ll ≤ s.cli from hcli)] at hsettle
    exact ⟨_, perform_of_ok hsettle, rfl, getD_clearFrom hlen _⟩
  · have hsettle := settle_codeLengths ho hp
    rw [hq, if_pos (show s.seqLen .d ≤ s.cli from hcli)] at hsettle
    refine ⟨fun u v hu hv => ?_, fun c u hu => ?_, fun c u v hu hv => ?_⟩
    · have hbuild : buildBlockTrees s = .ok () { v with dtPresent := true } := by
        rw [buildBlockTrees, M.bind_of_ok _ hu, M.bind_of_ok _ hv, M.modify_apply]
      exact perform_of_ok (hsettle.trans (M.bind_of_ok _ hbuild))
    · have hbuild : buildBlockTrees s = .error (.raise c) u := M.bind_of_error _ hu
      exact perform_raises (hsettle.trans (M.bind_of_error _ hbuild))
    · have hbuild : buildBlockTrees s = .error (.raise c) v := (M.bind_of_ok _ hu).trans (M.bind_of_error _ hv)
      exact perform_raises (hsettle.trans (M.bind_of_error _ hbuild))

/-! ### Which element each element leads to -/

/-- Where the piece ends well, the next element is that of the phase. -/
def LeadsTo (m : M Unit) (p : Phase) : Prop := ∀ s t, m s = .ok () t → t.phase = p

theorem LeadsTo.update {g : State → State} {p : Phase} (h : ∀ s, (g s).phase = p) : LeadsTo (modify g) p := by
  rintro s t ht
  cases ht
  exact h s

theorem LeadsTo.bind {α : Type} {m : M α} {f : α → M Unit} {p : Phase} (h : ∀ a, LeadsTo (f a) p) :
    LeadsTo (m >>= f) p := by
  intro s t ht
  obtain ⟨a, u, -, hu⟩ := M.of_bind_ok ht
  exact h a u t hu

/-- A next state that is no fault is what the piece ended in. -/
theorem ok_of_perform_next {m : M Unit} (h : perform m s = .next t) (hf : t.fsm ≠ .fault) : m s = .ok () t := by
  obtain hok | ⟨c, u, -, rfl⟩ := perform_next h
  · exact hok
  · exact absurd rfl hf

theorem LeadsTo.phase {m : M Unit} {p : Phase} (hm : LeadsTo m p) (h : perform m s = .next t)
    (hf : t.fsm ≠ .fault) : t.phase = p :=
  hm s t (ok_of_perform_next h hf)

theorem thenDistance_leadsTo (m : M Unit) : LeadsTo (thenDistance m) .distance :=
  .bind fun _ => .update fun _ => rfl

theorem thenCopy_leadsTo (m : M Unit) : LeadsTo (thenCopy m) .expand :=
  .bind fun _ => .bind fun _ => .bind fun _ => .update fun _ => rfl

/-- A literal/length symbol goes on in EXPAND, ends it, or asks for a distance (45_lz77.md R220). -/
theorem phase_of_literalLengthMeaning {k : Nat} (h : literalLengthMeaning k s = .ok () t) :
    t.phase = if k < 256 then s.phase else if k = 256 then .returned else .distance := by
  unfold literalLengthMeaning at h
  split_ifs at h ⊢
  · cases h
    rfl
  · cases h
    rfl
  · exact thenDistance_leadsTo _ s t h
  · cases h

/-- Settles O42: each meaning ends by writing its phase, or does not write it. -/
theorem elementsLeadToTheNext : Obligations.ElementsLeadToTheNext := by
  intro s t hf
  have hcl {k i} (hd : decode ⟨.cl, k⟩ = .ok i) (h : exec i s = .next t) : t.phase = s.phase := by
    rw [exec_codeLength (encode_of_decode_cl hd)] at h
    exact (emitted_of_codeLengthSymbol (ok_of_perform_next h hf)).phase
  have hll {k i} (hd : decode ⟨.ll, k⟩ = .ok i) (h : exec i s = .next t) :
      t.phase = if k < 256 then s.phase else if k = 256 then .returned else .distance := by
    rw [exec_literalLength (encode_of_decode_ll hd)] at h
    exact phase_of_literalLengthMeaning (ok_of_perform_next h hf)
  have hdist {k i} (hd : decode ⟨.d, k⟩ = .ok i) (h : exec i s = .next t) : t.phase = .expand := by
    rw [exec_distance (encode_of_decode_d hd)] at h
    exact (thenCopy_leadsTo _).phase h hf
  refine ⟨fun f h => ?_, fun f h => ?_, fun f h => ?_, fun h => ?_, fun h => ?_, fun h => ?_, fun h => ?_,
    fun h => ?_, fun _ _ => hcl, fun _ _ => hll, fun _ _ => hdist⟩
  · cases h
    rfl
  · rw [exec_blkFixed] at h
    cases h
    rfl
  · cases h
    rfl
  all_goals exact LeadsTo.phase (.bind fun _ => .update fun _ => rfl) h hf

end Sys2Proof.Machine
end

section
/-! PROOF. The copy of a match (45_lz77.md R229 to R237). COPY appends the byte `DISTANCE` back, so the window behind
the cursor turns by one place a byte, which is the cyclic closed form; a distance code is its distance, the window
check and that copy. -/

namespace Sys2Proof.Machine

variable {s u : State} {m : M Unit}

/-! ### COPY -/

/-- One byte on, the window begins one place later and closes with the byte it began with (R234). -/
theorem State.read_append_window (h1 : 1 ≤ s.distance) (h2 : s.distance ≤ s.outLen) (k : Nat) :
    (s.append (s.out.read (s.outLen - s.distance))).out.read (s.outLen + 1 - s.distance + k % s.distance) =
      s.out.read (s.outLen - s.distance + (k + 1) % s.distance) := by
  have hlt : k % s.distance < s.distance := Nat.mod_lt _ h1
  rw [State.append_out, Memory.read_write, ← Nat.mod_add_mod]
  by_cases hlast : k % s.distance + 1 = s.distance
  · rw [if_pos (by omega), hlast, Nat.mod_self, Nat.add_zero]
  · rw [if_neg (by omega), Nat.mod_eq_of_lt (show k % s.distance + 1 < s.distance by omega)]
    congr 1
    omega

/-- A copy inside the window appends the window's bytes cyclically and changes `OUT` only (R234, R235). -/
theorem copyBytes_ok (n : Nat) (h1 : 1 ≤ s.distance) (h2 : s.distance ≤ s.outLen) :
    ∃ out, copyBytes n s = .ok () { s with out := out, outLen := s.outLen + n } ∧
      CopiedFrom s { s with out := out, outLen := s.outLen + n } n s.distance := by
  induction n generalizing s with
  | zero => exact ⟨s.out, rfl, rfl, fun _ _ => rfl, nofun, fun _ _ => rfl⟩
  | succ n ih =>
    obtain ⟨out, hrun, -, hkept, hcopied, hbeyond⟩ :=
      ih (s := s.append (s.out.read (s.outLen - s.distance))) h1 (Nat.le_succ_of_le h2)
    simp only [State.append_outLen, State.append_distance] at hrun hkept hcopied hbeyond
    have hold {a : Nat} (ha : a ≠ s.outLen) := s.out.read_write_other (s.out.read (s.outLen - s.distance)) ha
    refine ⟨out, ?_, rfl, fun a ha => ?_, fun k hk => ?_, fun a ha => ?_⟩
    · rw [copyBytes, M.bind_of_ok _ (copyByte_ok h1 h2), hrun, Nat.add_right_comm]
      rfl
    · exact (hkept a (Nat.lt_succ_of_lt ha)).trans (hold ha.ne)
    · cases k with
      | zero =>
        refine (hkept s.outLen (Nat.lt_succ_self _)).trans ?_
        rw [Nat.zero_mod]
        exact Memory.read_write_same _ _ _
      | succ k =>
        rw [← State.read_append_window h1 h2, ← hcopied k (Nat.lt_of_succ_lt_succ hk)]
        congr 1
        omega
    · exact (hbeyond a (by omega)).trans (hold (by omega))

theorem copyMatch_apply (s : State) : copyMatch s = copyBytes s.length s := rfl

theorem exec_copy (s : State) : exec .copy s = perform copyMatch s := rfl

/-- Settles O40: the copy of `LENGTH` bytes. -/
theorem copyRepeatsTheWindowCyclically : Obligations.CopyRepeatsTheWindowCyclically := by
  intro s h1 h2
  obtain ⟨out, hrun, hcopied⟩ := copyBytes_ok s.length h1 h2
  exact ⟨_, perform_of_ok hrun, hcopied, rfl⟩

/-! ### Distance codes -/

/-- A distance inside the window is followed by the copy (R233, R234, R237). -/
theorem thenCopy_ok (hm : m s = .ok () u) (h1 : 1 ≤ u.distance) (h2 : u.distance ≤ u.outLen) :
    ∃ out, thenCopy m s = .ok () { u with out := out, outLen := u.outLen + u.length, phase := .expand } ∧
      CopiedFrom u { u with out := out, outLen := u.outLen + u.length } u.length u.distance := by
  obtain ⟨out, hrun, hcopied⟩ := copyBytes_ok u.length h1 h2
  refine ⟨out, ?_, hcopied⟩
  rw [thenCopy, M.bind_of_ok _ hm, M.bind_of_ok _ (windowCheck_ok h2), M.bind_of_ok _ ((copyMatch_apply u).trans hrun),
    M.modify_apply]

/-- A distance beyond the bytes produced raises DistanceTooFar, nothing copied (R233, R237). -/
theorem thenCopy_far (hm : m s = .ok () u) (h : u.outLen < u.distance) :
    Raises (perform (thenCopy m) s) .distanceTooFar := by
  refine perform_raises (t := u) ?_
  rw [thenCopy, M.bind_of_ok _ hm, M.bind_of_error _ (windowCheck_far h)]

theorem thenCopy_raises {c : Cause} (hm : m s = .error (.raise c) u) : Raises (perform (thenCopy m) s) c :=
  perform_raises (M.bind_of_error _ hm)

theorem distanceCode_short {k : Nat} (h : k ≤ 3) :
    distanceCode k s = .ok () { s with distance := k + 1 } := by
  rw [distanceCode, if_neg (by omega), if_pos h]
  rfl

theorem distanceCode_long {k : Nat} (lo : 4 ≤ k) (hi : k ≤ 29) : distanceCode k = longDistanceCode k := by
  rw [distanceCode, if_neg (by omega), if_neg (by omega)]

theorem distanceCode_invalid {k : Nat} (h : 30 ≤ k) : distanceCode k = invalidDistanceCode := if_pos h

/-- R230 in powers of two. -/
theorem longDistance_eq (k e x : Nat) : longDistance k e x = 2 ^ (e + 1) + 2 ^ e * (k % 2) + 1 + x := by
  rw [longDistance, Nat.one_shiftLeft, Nat.one_shiftLeft]

/-- A code with its extra bits there sets `EBITS`, `EXTRA` and `DISTANCE` (R230). -/
theorem distanceCode_ok {k e : Nat} (lo : 4 ≤ k) (hi : k ≤ 29) (he : e = k / 2 - 1) (hb : s.hasBits e) :
    distanceCode k s = .ok () { s with
      cur := s.cur + e, ebits := e, extra := s.input.lsbField s.cur e,
      distance := 2 ^ (e + 1) + 2 ^ e * (k % 2) + 1 + s.input.lsbField s.cur e } := by
  subst he
  rw [distanceCode_long lo hi, ← longDistance_eq]
  exact longDistanceCode_ok hb

/-- Settles O38: the code sets its distance, and the match is copied. -/
theorem distanceCodesCompleteTheirMatch : Obligations.DistanceCodesCompleteTheirMatch := by
  intro k i hd s
  rw [exec_distance (encode_of_decode_d hd)]
  constructor
  · intro hk hwindow
    obtain ⟨out, hrun, hcopied⟩ := thenCopy_ok (distanceCode_short (s := s) hk) (Nat.le_add_left 1 k) hwindow
    exact ⟨_, perform_of_ok hrun, hcopied, rfl⟩
  · rintro e x d lo hi he rfl rfl hb hwindow
    obtain ⟨out, hrun, hcopied⟩ := thenCopy_ok (distanceCode_ok lo hi he hb)
      (Nat.le_add_right_of_le (Nat.le_add_left 1 _)) hwindow
    exact ⟨_, perform_of_ok hrun, hcopied, rfl⟩

/-- Settles O39: the extra bits come before the window check. -/
theorem distancesBeyondTheWindowFault : Obligations.DistancesBeyondTheWindowFault := by
  intro k i hd s hc
  rw [exec_distance (encode_of_decode_d hd)]
  refine ⟨fun hk hfar => thenCopy_far (distanceCode_short hk) hfar, fun lo hi hb => ?_,
    fun e lo hi he hb hfar => thenCopy_far (distanceCode_ok lo hi he hb) hfar⟩
  obtain ⟨t, ht⟩ := longDistanceCode_short hc hb
  exact thenCopy_raises ((congrFun (distanceCode_long lo hi) s).trans ht)

end Sys2Proof.Machine
end

section
/-! PROOF. The literal/length symbols (45_lz77.md R221 to R227), each by the outcome of its class. -/

namespace Sys2Proof.Machine

variable {s : State}

/-! ### Literals and lengths -/

/-- Settles O33: the symbol is the byte. -/
theorem literalsAppendTheirByte : Obligations.LiteralsAppendTheirByte := by
  intro k i hk hd s
  rw [exec_literal (encode_of_decode_ll hd) hk]
  refine ⟨s.append (BitVec.ofNat 8 k), perform_of_ok (literal_apply k s), rfl, ?_,
    fun a ha => Memory.read_write_other _ _ ha⟩
  rw [State.append_out, Memory.read_write_same, BitVec.toNat_ofNat, Nat.mod_eq_of_lt hk]

/-- R224 in powers of two. -/
theorem longLength_eq (k e x : Nat) :
    longLength k e x = 2 ^ (e + 2) + 2 ^ e * ((k - 257) % 4) + 3 + x := by
  rw [longLength, Nat.one_shiftLeft, Nat.one_shiftLeft]

/-- Settles O35: each class of length symbols by its outcomes. -/
theorem lengthSymbolsSetLength : Obligations.LengthSymbolsSetLength := by
  intro k i hd s hc
  have hword := encode_of_decode_ll hd
  refine ⟨fun lo hi => ⟨.distance, ?_⟩, fun lo hi hb => ⟨.distance, ?_⟩, fun lo hi hb => ?_, ?_⟩
  · rw [exec_shortLength hword lo hi]
    exact perform_then_of_ok (shortLengthSymbol_apply k s)
  · rw [exec_longLength hword lo hi, ← longLength_eq]
    exact perform_then_of_ok (longLengthSymbol_ok hb)
  · rw [exec_longLength hword lo hi]
    exact perform_then_raises (longLengthSymbol_short hc hb)
  · rintro rfl
    rw [exec_literalLength hword]
    exact ⟨.distance, perform_then_of_ok (longestLengthSymbol_apply s)⟩

/-- Settles O36: the two rows of each table raise before any bit is read. -/
theorem invalidSymbolsFault : Obligations.InvalidSymbolsFault := by
  intro s
  have hll {i : Instr} {k : Nat} (hi : encode i = ⟨.ll, k⟩) (hk : 286 ≤ k) : Raises (exec i s) .invalidSymbol := by
    rw [exec_literalLength hi, literalLengthMeaning, if_neg (by omega), if_neg (by omega), if_neg (by omega)]
    exact perform_raises (M.raise_apply _ s)
  have hd {i : Instr} {k : Nat} (hi : encode i = ⟨.d, k⟩) (hk : 30 ≤ k) : Raises (exec i s) .invalidSymbol := by
    rw [exec_distance hi, distanceCode_invalid hk]
    exact thenCopy_raises (M.raise_apply _ s)
  exact ⟨hll rfl (by decide), hll rfl (by decide), hd rfl (by decide), hd rfl (by decide)⟩

/-- Settles O37: both tables by evaluating the formulas at each row. -/
theorem formulasGiveTheTables : Obligations.FormulasGiveTheTables :=
  ⟨by decide, by decide +kernel, rfl, by decide, by decide +kernel⟩

/-! ### The end-of-block symbol -/

/-- A code of `LLT` ahead is fetched as the word of its symbol (R220). -/
theorem fetch_expand {l k : Nat} (hport : s.port = none) (hf : s.fsm = .dispatching) (hp : s.phase = .expand)
    (h : s.codeAhead s.llt l k) : fetch s = .ok ⟨.ll, k⟩ { s with cur := s.cur + l, sym := k } := by
  have hsym : htDecode .llt s = .ok k { s with cur := s.cur + l } := Tree.descend_code h
  rw [fetch_dispatching hport hf, fetchElement_expand hp, M.bind_of_ok _ hsym]
  rfl

/-- Settles O34: the symbol returns from EXPAND, and the statements that follow it leave the block. -/
theorem endOfBlockEndsTheBlock : Obligations.EndOfBlockEndsTheBlock := by
  refine ⟨fun s => rfl, fun s l hport hf hp h => ?_⟩
  rw [step_of_fetch (fetch_expand hport hf hp h), runWord_literalLength]
  refine perform_of_ok ((settle_returned (s := { s with cur := s.cur + l, sym := 256, phase := .returned }) ?_ rfl))
  simp [State.over, hf]

end Sys2Proof.Machine
end

section
/-! PROOF. EXPAND (45_lz77.md R220) as a round per literal/length symbol, a match with its distance included. What a
piece leaves unchanged is said by a projection of the state that its parts keep. -/

namespace Sys2Proof.Machine

variable {α β γ : Type} {s t : State}

/-! ### Pieces of pseudocode that keep a projection of the state -/

/-- Where the piece ends well, it has kept what `f` shows of the state. -/
def Keeps (f : State → γ) (m : M α) : Prop := ∀ s a t, m s = .ok a t → f t = f s

section
variable {f : State → γ} {m : M α}

theorem Keeps.returns (a : α) : Keeps f (pure a : M α) := fun _ _ _ h => by cases h; rfl
theorem Keeps.reads : Keeps f (get : M State) := fun _ _ _ h => by cases h; rfl
theorem Keeps.raises (c : Cause) : Keeps f (raise c : M α) := fun s a t h => by
  rw [M.raise_apply] at h
  cases h

theorem Keeps.update {g : State → State} (h : ∀ s, f (g s) = f s) : Keeps f (modify g : M PUnit) :=
  fun s _ _ ht => by cases ht; exact h s

theorem Keeps.bind {k : α → M β} (hm : Keeps f m) (hk : ∀ a, Keeps f (k a)) : Keeps f (m >>= k) := by
  intro s b u h
  obtain ⟨a, t, ha, hb⟩ := M.of_bind_ok h
  exact (hk a t b u hb).trans (hm s a t ha)

theorem Keeps.ite {p : Prop} [Decidable p] {n : M α} (hm : Keeps f m) (hn : Keeps f n) :
    Keeps f (if p then m else n) := by
  split
  · exact hm
  · exact hn

end

/-! ### What the expander keeps -/

/-- The state without the registers EXPAND writes (45_lz77.md R220). -/
def State.besideExpander (s : State) : State :=
  { s with cur := 0, out := [], outLen := 0, sym := 0, ebits := 0, extra := 0, length := 0, dcode := 0, distance := 0 }

/-- Keeping the rest of the state is writing nothing but the expander's registers. -/
theorem State.expander_frame (h : t.besideExpander = s.besideExpander) :
    t = { s with cur := t.cur, out := t.out, outLen := t.outLen, sym := t.sym, ebits := t.ebits, extra := t.extra,
                 length := t.length, dcode := t.dcode, distance := t.distance } := by
  calc t = { t.besideExpander with
        cur := t.cur, out := t.out, outLen := t.outLen, sym := t.sym, ebits := t.ebits, extra := t.extra,
        length := t.length, dcode := t.dcode, distance := t.distance } := rfl
    _ = _ := by rw [h]; rfl

section
variable {f : State → γ} (hcur : ∀ s c, f { s with cur := c } = f s)
include hcur

theorem rbBit_keeps : Keeps f rbBit := by
  intro s b t h
  by_cases hb : s.hasBits 1
  · rw [rbBit_ok hb] at h
    cases h
    exact hcur s _
  · rw [rbBit_short hb] at h
    cases h

theorem rbLsbLoop_keeps (n i v : Nat) : Keeps f (rbLsbLoop n i v) := by
  induction n generalizing i v with
  | zero => exact .returns v
  | succ n ih => exact .bind (rbBit_keeps hcur) fun _ => ih _ _

theorem rbLsb_keeps (n : Nat) : Keeps f (rbLsb n) := rbLsbLoop_keeps hcur n 0 0

theorem rbMsbLoop_keeps (n v : Nat) : Keeps f (rbMsbLoop n v) := by
  induction n generalizing v with
  | zero => exact .returns v
  | succ n ih => exact .bind (rbBit_keeps hcur) fun _ => ih _

theorem htDecode_keeps (q : TreeSel) : Keeps f (htDecode q) := by
  intro s sym t h
  obtain ⟨l, -, -, rfl⟩ := Tree.of_descend_ok h
  exact hcur s _

theorem distFetch_keeps : Keeps f distFetch := by
  refine .bind .reads fun s => .ite (htDecode_keeps hcur .dt) ?_
  cases s.cfg.fixedDistOrder with
  | lsb => exact rbLsb_keeps hcur 5
  | msb => exact rbMsbLoop_keeps hcur 5 0

end

theorem lengthSymbol_keeps (sym : Nat) : Keeps State.besideExpander (lengthSymbol sym) :=
  .ite (.update fun _ => rfl) <| .ite (.update fun _ => rfl) <|
    .bind (.update fun _ => rfl) fun _ => .bind (rbLsb_keeps (fun _ _ => rfl) _) fun _ => .update fun _ => rfl

theorem distanceCode_keeps (code : Nat) : Keeps State.besideExpander (distanceCode code) :=
  .ite (.raises _) <| .ite (.update fun _ => rfl) <|
    .bind (.update fun _ => rfl) fun _ => .bind (rbLsb_keeps (fun _ _ => rfl) _) fun _ => .update fun _ => rfl

theorem copyBytes_keeps (n : Nat) : Keeps State.besideExpander (copyBytes n) := by
  induction n with
  | zero => exact .returns _
  | succ n ih =>
    refine .bind (fun s _ t h => ?_) fun _ => ih
    by_cases hw : 1 ≤ s.distance ∧ s.distance ≤ s.outLen
    · rw [copyByte_ok hw.1 hw.2] at h
      cases h
      rfl
    · rw [copyByte_outside (by omega)] at h
      cases h

theorem finishMatch_keeps (code : Nat) : Keeps State.besideExpander (finishMatch code) :=
  .bind (distanceCode_keeps code) fun _ => .bind (.bind .reads fun _ => .ite (.returns _) (.raises _)) fun _ =>
    .bind .reads fun s => copyBytes_keeps s.length

theorem finishMatch_grows (code : Nat) : Grows (finishMatch code) :=
  .bind (distanceCode_grows code) fun _ => .bind windowCheck_grows fun _ => .bind .reads fun s => copyBytes_grows s.length

/-! ### The rounds of EXPAND -/

/-- A literal/length symbol is decoded into `SYM` (R220). -/
def expandFetch : M Nat := do
  let sym ← htDecode .llt
  modify fun s => { s with sym := sym }
  return sym

/-- A match from its distance code on (R220, R228, R237). -/
def expandMatch : M Unit := do
  let code ← distFetch
  modify fun s => { s with dcode := code }
  finishMatch code

/-- What a round does with its symbol, as R220 branches; it answers whether the symbol was the end of the block. -/
def expandSymbol (sym : Nat) : M Bool :=
  if sym < 256 then do
    literal sym
    return false
  else if sym = 256 then return true
  else if sym ≤ 285 then do
    lengthSymbol sym
    expandMatch
    return false
  else raise .invalidSymbol

/-- One round of the loop of R220. -/
def expandRound : M Bool := do
  let sym ← expandFetch
  expandSymbol sym

/-- The loop goes round until the end of the block. -/
theorem expandLoop_succ (fuel : Nat) :
    expandLoop (fuel + 1) = expandRound >>= fun done => if done then pure () else expandLoop fuel := by
  simp only [expandLoop, expandRound, expandFetch, expandSymbol, bind_assoc, pure_bind]
  congr 1
  funext sym
  congr 1
  funext _
  split_ifs
  · rfl
  · rfl
  · simp only [expandMatch, bind_assoc]
    rfl
  · rfl

theorem expandAll_apply (s : State) : expandAll s = expandLoop (8 * s.inLen + 1) s := rfl

theorem expandFetch_keeps : Keeps State.besideExpander expandFetch :=
  .bind (htDecode_keeps (fun _ _ => rfl) .llt) fun _ => .bind (.update fun _ => rfl) fun _ => .returns _

theorem expandMatch_keeps : Keeps State.besideExpander expandMatch :=
  .bind (distFetch_keeps fun _ _ => rfl) fun code => .bind (.update fun _ => rfl) fun _ => finishMatch_keeps code

theorem expandSymbol_keeps (sym : Nat) : Keeps State.besideExpander (expandSymbol sym) :=
  .ite (.bind (.update fun _ => rfl) fun _ => .returns _) <| .ite (.returns _) <|
    .ite (.bind (lengthSymbol_keeps sym) fun _ => .bind expandMatch_keeps fun _ => .returns _) (.raises _)

theorem expandRound_keeps : Keeps State.besideExpander expandRound := .bind expandFetch_keeps expandSymbol_keeps

theorem expandLoop_keeps (fuel : Nat) : Keeps State.besideExpander (expandLoop fuel) := by
  induction fuel with
  | zero =>
    intro s _ t h
    rw [expandLoop, M.stuck_apply] at h
    cases h
  | succ fuel ih =>
    rw [expandLoop_succ]
    exact .bind expandRound_keeps fun _ => .ite (.returns _) ih

theorem expandAll_keeps : Keeps State.besideExpander expandAll := .bind .reads fun _ => expandLoop_keeps _

theorem expandFetch_grows : Grows expandFetch :=
  .bind (htDecode_grows .llt) fun _ => .bind (.update fun _ => rfl) fun _ => .returns _

theorem expandMatch_grows : Grows expandMatch :=
  .bind distFetch_grows fun code => .bind (.update fun _ => rfl) fun _ => finishMatch_grows code

theorem expandSymbol_grows (sym : Nat) : Grows (expandSymbol sym) :=
  .ite (.bind (.modifies fun s => .append s _) fun _ => .returns _) <| .ite (.returns _) <|
    .ite (.bind (lengthSymbol_grows sym) fun _ => .bind expandMatch_grows fun _ => .returns _) (.raises _)

theorem expandRound_grows : Grows expandRound := .bind expandFetch_grows expandSymbol_grows

theorem expandLoop_grows (fuel : Nat) : Grows (expandLoop fuel) := by
  induction fuel with
  | zero => exact fun _ => .of_footprint rfl
  | succ fuel ih =>
    rw [expandLoop_succ]
    exact .bind expandRound_grows fun _ => .ite (.returns _) ih

theorem expandAll_grows : Grows expandAll := .bind .reads fun _ => expandLoop_grows _

end Sys2Proof.Machine
end

section
/-! PROOF. EXPAND in one piece and step by step (45_lz77.md R220). Every round consumes input, so the fuel of the loop
never runs out. A match waits for its distance between two steps, in a phase of its own that no part of the match
looks at; so a round is one step or two. -/

namespace Sys2Proof.Machine

variable {α β : Type} {s t : State} {fuel : Nat} {rest : M Unit}

/-! ### Fuel -/

/-- A code of a built tree has at least one bit (41_huffman.md R159). -/
theorem Tree.code_pos_of_built {n sym l c : Nat} {tree : Tree} (hb : tree.built n = true)
    (h : tree.follow l c = Tree.leaf sym) : l ≠ 0 := by
  rintro rfl
  obtain rfl : tree = Tree.leaf sym := h
  cases hb

/-- A fetched symbol consumed its code (R220). -/
theorem of_expandFetch_ok {sym : Nat} (hb : s.llt.built llSize = true) (h : expandFetch s = .ok sym t) :
    ∃ l, l ≠ 0 ∧ s.hasBits l ∧ t = { s with cur := s.cur + l, sym := sym } := by
  obtain ⟨v, u, hsym, hv⟩ := M.of_bind_ok h
  cases hv
  obtain ⟨l, hbits, hleaf, rfl⟩ := Tree.of_descend_ok hsym
  have hl := Tree.code_pos_of_built hb hleaf
  exact ⟨l, hl, hbits hl, rfl⟩

/-- A symbol whose code is ahead is fetched. -/
theorem expandFetch_code {l k : Nat} (h : s.codeAhead s.llt l k) :
    expandFetch s = .ok k { s with cur := s.cur + l, sym := k } := by
  have hsym : htDecode .llt s = .ok k { s with cur := s.cur + l } := Tree.descend_code h
  rw [expandFetch, M.bind_of_ok _ hsym]
  rfl

theorem Grows.growsTo_of_ok {m : M α} {a : α} (hm : Grows m) (h : m s = .ok a t) : s.GrowsTo t :=
  endState_of_ok h ▸ hm s

/-- A round keeps the tree and leaves fewer bits to read (70_reset_and_hazards.md R322). -/
theorem expandRound_consumes {done : Bool} (hb : s.llt.built llSize = true) (h : expandRound s = .ok done t) :
    8 * t.inLen - t.cur < 8 * s.inLen - s.cur := by
  obtain ⟨sym, u, hfetch, hsymbol⟩ := M.of_bind_ok h
  obtain ⟨l, hl, hbits, rfl⟩ := of_expandFetch_ok hb hfetch
  have hgrows := (expandSymbol_grows sym).growsTo_of_ok hsymbol
  have hlen : t.inLen = s.inLen := hgrows.inLen
  have hcur : s.cur + l ≤ t.cur := hgrows.cur
  simp only [State.hasBits] at hbits
  omega

theorem llt_of_expandRound {done : Bool} (h : expandRound s = .ok done t) : t.llt = s.llt :=
  congrArg (·.llt) (expandRound_keeps s done t h)

/-- A round that ends early ends the loop. -/
theorem expandLoop_of_round_error {e : Trap} (h : expandRound s = .error e t) :
    expandLoop (fuel + 1) s = .error e t := by
  rw [expandLoop_succ, M.bind_of_error _ h]

/-- A round at the end of the block ends the loop. -/
theorem expandLoop_of_round_done (h : expandRound s = .ok true t) : expandLoop (fuel + 1) s = .ok () t := by
  rw [expandLoop_succ, M.bind_of_ok _ h]
  rfl

/-- Every other round goes on. -/
theorem expandLoop_of_round (h : expandRound s = .ok false t) : expandLoop (fuel + 1) s = expandLoop fuel t := by
  rw [expandLoop_succ, M.bind_of_ok _ h]
  rfl

/-- Fuel for every bit that is left is fuel enough (R322). -/
theorem expandLoop_fuel (hb : s.llt.built llSize = true) (hfuel : 8 * s.inLen - s.cur < fuel) :
    expandLoop (fuel + 1) s = expandLoop fuel s := by
  induction fuel generalizing s with
  | zero => exact absurd hfuel (Nat.not_lt_zero _)
  | succ fuel ih =>
    cases hround : expandRound s with
    | error e t => rw [expandLoop_of_round_error hround, expandLoop_of_round_error hround]
    | ok done t =>
      have hfewer := expandRound_consumes hb hround
      cases done with
      | true => rw [expandLoop_of_round_done hround, expandLoop_of_round_done hround]
      | false =>
        rw [expandLoop_of_round hround, expandLoop_of_round hround]
        exact ih (llt_of_expandRound hround ▸ hb) (by omega)

theorem exec_expand (s : State) :
    exec .expand s = perform (expandAll >>= fun _ => modify fun s => { s with phase := .returned }) s := rfl

/-- Settles O43: the first round of the loop, and for a literal the fuel it leaves. -/
theorem expandGoesOnToTheEndOfBlock : Obligations.ExpandGoesOnToTheEndOfBlock := by
  intro s l k hcode
  have hround : expandRound s = expandSymbol k { s with cur := s.cur + l, sym := k } :=
    M.bind_of_ok _ (expandFetch_code hcode)
  constructor
  · rintro rfl
    exact perform_then_of_ok ((expandAll_apply s).trans (expandLoop_of_round_done hround))
  · intro hk hb
    rw [expandSymbol, if_pos hk] at hround
    have hfewer := expandRound_consumes hb hround
    rw [exec_expand, exec_expand]
    refine perform_congr (M.bind_congr_left _ ?_)
    rw [expandAll_apply, expandAll_apply, expandLoop_of_round hround]
    refine (expandLoop_fuel ?_ ?_).symm
    exacts [hb, hfewer.trans_le (Nat.sub_le _ _)]

/-! ### The phase is no part of a match -/

/-- The same state in another phase. -/
def State.inPhase (s : State) (p : Phase) : State := { s with phase := p }

/-- The same end of a piece in another phase. -/
def endInPhase (p : Phase) : EStateM.Result Trap State α → EStateM.Result Trap State α
  | .ok a t => .ok a (t.inPhase p)
  | .error e t => .error e (t.inPhase p)

/-- The piece does the same in every phase, and stays in it. -/
def PhaseBlind (m : M α) : Prop := ∀ s p, m (s.inPhase p) = endInPhase p (m s)

theorem PhaseBlind.returns (a : α) : PhaseBlind (pure a : M α) := fun _ _ => rfl
theorem PhaseBlind.raises (c : Cause) : PhaseBlind (raise c : M α) := fun _ _ => rfl
theorem PhaseBlind.refuses (r : Refusal) : PhaseBlind (refuse r : M α) := fun _ _ => rfl

theorem PhaseBlind.modifies {g : State → State} (h : ∀ s p, g (s.inPhase p) = (g s).inPhase p) :
    PhaseBlind (modify g : M PUnit) := fun s p => congrArg (EStateM.Result.ok PUnit.unit) (h s p)

/-- Reading the state, where what is read is not the phase. -/
theorem PhaseBlind.reads {f : State → M β} (h : ∀ s p, f (s.inPhase p) = f s) (hf : ∀ s, PhaseBlind (f s)) :
    PhaseBlind ((get : M State) >>= f) := fun s p => by
  rw [M.get_bind, M.get_bind, h s p]
  exact hf s s p

theorem PhaseBlind.bind {m : M α} {f : α → M β} (hm : PhaseBlind m) (hf : ∀ a, PhaseBlind (f a)) :
    PhaseBlind (m >>= f) := by
  intro s p
  have h := hm s p
  cases hs : m s with
  | ok a t =>
    rw [hs] at h
    rw [M.bind_of_ok f hs, M.bind_of_ok f h, hf a t p]
  | error e t =>
    rw [hs] at h
    rw [M.bind_of_error f hs, M.bind_of_error f h]
    rfl

theorem PhaseBlind.ite {c : Prop} [Decidable c] {m n : M α} (hm : PhaseBlind m) (hn : PhaseBlind n) :
    PhaseBlind (if c then m else n) := by
  split
  · exact hm
  · exact hn

theorem rbBit_phaseBlind : PhaseBlind rbBit := by
  intro s p
  by_cases h : s.hasBits 1
  · rw [rbBit_ok h]
    exact rbBit_ok (s := s.inPhase p) h
  · rw [rbBit_short h]
    exact rbBit_short (s := s.inPhase p) h

theorem rbLsbLoop_phaseBlind (n i v : Nat) : PhaseBlind (rbLsbLoop n i v) := by
  induction n generalizing i v with
  | zero => exact .returns v
  | succ n ih => exact .bind rbBit_phaseBlind fun _ => ih _ _

theorem rbLsb_phaseBlind (n : Nat) : PhaseBlind (rbLsb n) := rbLsbLoop_phaseBlind n 0 0

theorem rbMsbLoop_phaseBlind (n v : Nat) : PhaseBlind (rbMsbLoop n v) := by
  induction n generalizing v with
  | zero => exact .returns v
  | succ n ih => exact .bind rbBit_phaseBlind fun _ => ih _

theorem descend_phaseBlind (tree : Tree) : PhaseBlind tree.descend := by
  induction tree with
  | none => exact .refuses _
  | node x y sym ihx ihy =>
    refine .ite ?_ (.bind rbBit_phaseBlind fun b => .ite (.ite (.raises _) ihy) (.ite (.raises _) ihx))
    cases sym with
    | none => exact .raises _
    | some v => exact .returns v

theorem htDecode_phaseBlind (q : TreeSel) : PhaseBlind (htDecode q) :=
  .reads (fun _ _ => by cases q <;> rfl) fun s => descend_phaseBlind (s.tree q)

theorem distFetch_phaseBlind : PhaseBlind distFetch := by
  refine .reads (fun _ _ => rfl) fun s => .ite (htDecode_phaseBlind .dt) ?_
  cases s.cfg.fixedDistOrder with
  | lsb => exact rbLsb_phaseBlind 5
  | msb => exact rbMsbLoop_phaseBlind 5 0

theorem distanceCode_phaseBlind (code : Nat) : PhaseBlind (distanceCode code) :=
  .ite (.raises _) <| .ite (.modifies fun _ _ => rfl) <|
    .bind (.modifies fun _ _ => rfl) fun _ => .bind (rbLsb_phaseBlind _) fun _ => .modifies fun _ _ => rfl

theorem copyByte_phaseBlind : PhaseBlind copyByte := by
  intro s p
  by_cases h : 1 ≤ s.distance ∧ s.distance ≤ s.outLen
  · rw [copyByte_ok h.1 h.2]
    exact copyByte_ok (s := s.inPhase p) h.1 h.2
  · have hout : s.distance = 0 ∨ s.outLen < s.distance := by omega
    rw [copyByte_outside hout]
    exact copyByte_outside (s := s.inPhase p) hout

theorem copyBytes_phaseBlind (n : Nat) : PhaseBlind (copyBytes n) := by
  induction n with
  | zero => exact .returns _
  | succ n ih => exact .bind copyByte_phaseBlind fun _ => ih

theorem finishMatch_phaseBlind (code : Nat) : PhaseBlind (finishMatch code) :=
  .bind (distanceCode_phaseBlind code) fun _ =>
    .bind (.reads (fun _ _ => rfl) fun _ => .ite (.returns _) (.raises _)) fun _ =>
      .reads (fun _ _ => rfl) fun s => copyBytes_phaseBlind s.length

theorem expandMatch_phaseBlind : PhaseBlind expandMatch :=
  .bind distFetch_phaseBlind fun code => .bind (.modifies fun _ _ => rfl) fun _ => finishMatch_phaseBlind code

/-- A fault leaves no phase (60_exceptions.md R292). -/
theorem trapped_inPhase (e : Trap) (s : State) (p : Phase) : trapped e (s.inPhase p) = trapped e s := by
  cases e <;> rfl

/-! ### The steps of the expander -/

/-- The step of a literal/length symbol is its fetch and its meaning (R220). -/
theorem step_expand (hport : s.port = none) (hf : s.fsm = .dispatching) (hp : s.phase = .expand) :
    step s = perform (expandFetch >>= fun sym => literalLengthMeaning sym >>= fun _ => settle) s := by
  rw [step_eq_perform hport]
  refine perform_congr ((M.bind_congr_left _ ((fetch_dispatching hport hf).trans (fetchElement_expand hp))).trans ?_)
  simp only [expandFetch, bind_assoc, pure_bind]
  rfl

/-- The step of a distance code is its match and the way back to the next symbol (R228, R237). -/
theorem step_distance (hport : s.port = none) (hf : s.fsm = .dispatching) (hp : s.phase = .distance) :
    step s = perform (expandMatch >>= fun _ => (modify fun s => { s with phase := .expand }) >>= fun _ => settle) s := by
  rw [step_eq_perform hport]
  refine perform_congr ((M.bind_congr_left _ ((fetch_dispatching hport hf).trans (fetchElement_distance hp))).trans ?_)
  simp only [expandMatch, finishMatch, elementMeaning, thenCopy, bind_assoc, pure_bind]

/-- Behind a literal or a match there is nothing to do before the next symbol. -/
theorem settle_expand (hp : s.phase = .expand) : settle s = .ok () s :=
  settle_waiting (by simp [hp]) (by simp [hp]) (by simp [hp])

theorem settle_distance (s : State) : settle (s.inPhase .distance) = .ok () (s.inPhase .distance) :=
  settle_waiting (s := { s with phase := .distance }) nofun nofun nofun

/-- Going back to the symbols from another phase. -/
theorem backToExpand_apply (hp : s.phase = .expand) (p : Phase) :
    ((modify fun s => { s with phase := .expand } : M PUnit) >>= fun _ => settle) (s.inPhase p) = .ok () s := by
  have hback : ({ s.inPhase p with phase := .expand } : State) = s := by
    rw [← hp]
    rfl
  rw [M.modify_bind, hback]
  exact settle_expand hp

/-! ### In one piece and step by step -/

/-- EXPAND stands before a symbol (R220). -/
def State.AtSymbol (s : State) : Prop := s.fsm = .dispatching ∧ s.phase = .expand

/-- Where a piece kept all but the expander's registers, EXPAND still stands before a symbol. -/
theorem State.AtSymbol.of_keeps (hs : s.AtSymbol) (h : t.besideExpander = s.besideExpander) : t.AtSymbol :=
  ⟨(congrArg (·.fsm) h).trans hs.1, (congrArg (·.phase) h).trans hs.2⟩

/-- What ends EXPAND: it has returned, and the block is left (R220, 46_decode_loop.md R265). -/
def expandReturn : M Unit := do
  modify fun s => { s with phase := .returned }
  settle

/-- A match agrees with the step of its distance, where what follows agrees with the steps behind it. -/
theorem expandMatch_agrees (hinv : (s.inPhase .distance).Inv) (hs : s.AtSymbol)
    (hrest : ∀ t, expandMatch s = .ok () t → t.Inv → AgreesWithSteps (perform rest t) t) :
    AgreesWithSteps (perform (expandMatch >>= fun _ => rest) s) (s.inPhase .distance) := by
  obtain ⟨v, hnext, hv⟩ := everyStepKeepsTheRunInOrder _ hinv
  have hstep := step_distance hinv.portEmpty hs.1 rfl
  have hblind := expandMatch_phaseBlind s .distance
  cases hm : expandMatch s with
  | error e t =>
    rw [hm] at hblind
    refine agreesWithSteps_of_eq_step hnext ?_
    rw [hstep, perform, M.bind_of_error _ hm, perform, M.bind_of_error _ hblind]
    exact (trapped_inPhase e t .distance).symm
  | ok _ t =>
    rw [hm] at hblind
    have ht := hs.of_keeps (expandMatch_keeps s () t hm)
    rw [perform_congr (M.bind_of_ok _ hblind), perform_of_ok (backToExpand_apply ht.2 .distance)] at hstep
    rw [hstep] at hnext
    cases hnext
    rw [perform_congr (M.bind_of_ok _ hm)]
    exact .cons hstep (hrest _ hm hv)

/-- A symbol agrees with its step, and with the step of its distance too where it begins a match. -/
theorem expandSymbol_agrees {sym : Nat} (hinv : s.Inv) (ht : t.AtSymbol)
    (hstep : step s = perform (literalLengthMeaning sym >>= fun _ => settle) t)
    (hrest : ∀ u, expandSymbol sym t = .ok false u → u.Inv → AgreesWithSteps (perform rest u) u) :
    AgreesWithSteps (perform (expandSymbol sym >>= fun done => if done then expandReturn else rest) t) s := by
  obtain ⟨v, hnext, hv⟩ := everyStepKeepsTheRunInOrder _ hinv
  unfold literalLengthMeaning at hstep
  unfold expandSymbol at hrest ⊢
  split_ifs at hstep hrest ⊢ with hliteral hend hlength
  · have hsettled : settle (t.append (BitVec.ofNat 8 sym)) = .ok () (t.append (BitVec.ofNat 8 sym)) :=
      settle_expand ht.2
    rw [perform_congr (M.bind_of_ok _ (literal_apply sym t)), perform_of_ok hsettled] at hstep
    rw [hstep] at hnext
    cases hnext
    exact .cons hstep (hrest _ rfl hv)
  · exact agreesWithSteps_of_eq_step hnext hstep.symm
  · rw [bind_assoc]
    cases hlen : lengthSymbol sym t with
    | error e u =>
      refine agreesWithSteps_of_eq_step hnext ?_
      rw [hstep, perform, M.bind_of_error _ hlen, thenDistance, bind_assoc, perform, M.bind_of_error _ hlen]
    | ok _ u =>
      have hmeaning : thenDistance (lengthSymbol sym) t = .ok () (u.inPhase .distance) := M.bind_of_ok _ hlen
      rw [perform_congr (M.bind_of_ok _ hmeaning), perform_of_ok (settle_distance u)] at hstep
      rw [hstep] at hnext
      cases hnext
      rw [perform_congr (M.bind_of_ok _ hlen), bind_assoc]
      refine .cons hstep (expandMatch_agrees hv (ht.of_keeps (lengthSymbol_keeps sym t () u hlen)) fun w hm =>
        hrest w ?_)
      rw [M.bind_of_ok _ hlen, M.bind_of_ok _ hm, M.pure_apply]
  · exact agreesWithSteps_of_eq_step hnext hstep.symm

/-- A round agrees with its steps, where what follows agrees with the steps behind it. -/
theorem expandRound_agrees (hinv : s.Inv) (hs : s.AtSymbol)
    (hrest : ∀ t, expandRound s = .ok false t → t.Inv → AgreesWithSteps (perform rest t) t) :
    AgreesWithSteps (perform (expandRound >>= fun done => if done then expandReturn else rest) s) s := by
  have hstep := step_expand hinv.portEmpty hs.1 hs.2
  cases hfetch : expandFetch s with
  | error e t =>
    obtain ⟨v, hnext, -⟩ := everyStepKeepsTheRunInOrder s hinv
    refine agreesWithSteps_of_eq_step hnext ?_
    rw [hstep, expandRound, bind_assoc, perform, perform, M.bind_of_error _ hfetch, M.bind_of_error _ hfetch]
  | ok sym t =>
    have hround : expandRound s = expandSymbol sym t := M.bind_of_ok _ hfetch
    rw [perform_congr (M.bind_of_ok _ hfetch)] at hstep
    rw [perform_congr (M.bind_congr_left _ hround)]
    exact expandSymbol_agrees hinv (hs.of_keeps (expandFetch_keeps s sym t hfetch)) hstep
      fun u hu => hrest u (hround.trans hu)

/-- The loop and what follows it, by its first round. -/
theorem expandLoop_bind (fuel : Nat) : (expandLoop (fuel + 1) >>= fun _ => rest) =
    expandRound >>= fun done => if done then rest else expandLoop fuel >>= fun _ => rest := by
  rw [expandLoop_succ, bind_assoc]
  congr 1
  funext done
  cases done <;> rfl

/-- The loop of EXPAND agrees with the steps from any symbol of the block on. -/
theorem expandLoop_agrees (hinv : s.Inv) (hs : s.AtSymbol) (hfuel : 8 * s.inLen - s.cur < fuel) :
    AgreesWithSteps (perform (expandLoop fuel >>= fun _ => expandReturn) s) s := by
  induction fuel generalizing s with
  | zero => exact absurd hfuel (Nat.not_lt_zero _)
  | succ fuel ih =>
    have hrunning := hinv.running (by simp [hs.1])
    obtain ⟨hllt, -⟩ := hrunning.expander (.inl hs.2)
    rw [expandLoop_bind]
    refine expandRound_agrees hinv hs fun t hround ht => ih ht (hs.of_keeps (expandRound_keeps s false t hround)) ?_
    have hfewer := expandRound_consumes hllt hround
    omega

/-- Settles O47: EXPAND is its loop with fuel for every bit of the input, and the loop agrees with the steps. -/
theorem expandInOnePieceAgreesWithItsElements : Obligations.ExpandInOnePieceAgreesWithItsElements := by
  intro s hinv hf hp
  rw [runInstr_of_exec (exec_expand s), bind_assoc, perform_congr (M.bind_congr_left _ (expandAll_apply s))]
  exact expandLoop_agrees hinv ⟨hf, hp⟩ (Nat.lt_succ_of_le (Nat.sub_le _ _))

end Sys2Proof.Machine
end

section
/-! PROOF. What EXPAND, CLSEQ and BLK.HDR leave unchanged (45_lz77.md R220, 44_dynamic.md R196, 46_decode_loop.md R262
to R265). A round of CLSEQ emits no length beyond the end of its sequence; a block decoder keeps everything of the
state that belongs to the run, and leaving the block settles the rest. -/

namespace Sys2Proof.Machine

variable {s t u : State} {n v fuel : Nat}

/-! ### CLSEQ -/

/-- The state without the registers and tables a running sequence writes (44_dynamic.md R196). -/
def State.besideSequence (s : State) : State :=
  { s with cur := 0, clsym := 0, rep := 0, cli := 0, llcl := [], dcl := [] }

/-- From `s` to `t` lengths of the running sequence were emitted, none beyond its end: the entries there, the other
table and the rest of the state are as before (44_dynamic.md R196, R202). -/
structure State.Sequenced (s t : State) : Prop where
  rest : t.besideSequence = s.besideSequence
  cli_le : t.cli ≤ s.seqLen s.seqTable
  dcl : s.seqTable = .ll → t.dcl = s.dcl
  llcl : s.seqTable = .d → t.llcl = s.llcl
  beyond : ∀ j, s.seqLen s.seqTable ≤ j →
    t.llcl.getD j 0 = s.llcl.getD j 0 ∧ t.dcl.getD j 0 = s.dcl.getD j 0

theorem State.Sequenced.refl (h : s.cli ≤ s.seqLen s.seqTable) : s.Sequenced s :=
  ⟨rfl, h, fun _ => rfl, fun _ => rfl, fun _ _ => ⟨rfl, rfl⟩⟩

theorem State.Sequenced.seqTable (h : s.Sequenced t) : t.seqTable = s.seqTable :=
  congrArg (·.seqTable) h.rest

theorem State.Sequenced.seqLen (h : s.Sequenced t) : t.seqLen t.seqTable = s.seqLen s.seqTable := by
  have hhlit : t.hlit = s.hlit := congrArg (·.hlit) h.rest
  have hhdist : t.hdist = s.hdist := congrArg (·.hdist) h.rest
  rw [h.seqTable]
  cases s.seqTable
  · exact hhlit
  · exact hhdist

theorem State.Sequenced.trans (h : s.Sequenced t) (h' : t.Sequenced u) : s.Sequenced u where
  rest := h'.rest.trans h.rest
  cli_le := h'.cli_le.trans_eq h.seqLen
  dcl hq := (h'.dcl (h.seqTable.trans hq)).trans (h.dcl hq)
  llcl hq := (h'.llcl (h.seqTable.trans hq)).trans (h.llcl hq)
  beyond j hj := by
    obtain ⟨hll, hd⟩ := h.beyond j hj
    obtain ⟨hll', hd'⟩ := h'.beyond j (h.seqLen.trans_le hj)
    exact ⟨hll'.trans hll, hd'.trans hd⟩

/-- Emitting lengths writes no entry behind them (R196). -/
theorem State.emitLengths_beyond (s : State) (v : Nat) {n j : Nat} (h : s.cli + n ≤ j) :
    (s.emitLengths v n).llcl.getD j 0 = s.llcl.getD j 0 ∧ (s.emitLengths v n).dcl.getD j 0 = s.dcl.getD j 0 := by
  induction n generalizing s with
  | zero => exact ⟨rfl, rfl⟩
  | succ n ih =>
    obtain ⟨hll, hd⟩ := ih (s.emitLength v) (by rw [State.emitLength_cli]; omega)
    have hset (table : List Nat) : (table.set s.cli v).getD j 0 = table.getD j 0 := by
      rw [List.getD_eq_getElem?_getD, List.getElem?_set_ne (by omega), List.getD_eq_getElem?_getD]
    rw [State.emitLengths, hll, hd]
    cases hq : s.seqTable with
    | ll => exact ⟨by rw [State.emitLength_of_ll hq]; exact hset _, by rw [State.emitLength_of_ll hq]⟩
    | d => exact ⟨by rw [State.emitLength_of_d hq], by rw [State.emitLength_of_d hq]; exact hset _⟩

/-- A run that fits stays within the sequence (R202). -/
theorem State.sequenced_emitLengths (c r v : Nat) (h : s.cli + n ≤ s.seqLen s.seqTable) :
    s.Sequenced (State.emitLengths { s with cur := c, rep := r } v n) := by
  obtain ⟨-, -, hd, hll⟩ := State.emitLengths_tables { s with cur := c, rep := r } v n
  refine ⟨?_, ?_, hd, hll, fun j hj => State.emitLengths_beyond { s with cur := c, rep := r } v (h.trans hj)⟩
  · rw [State.emitLengths_frame]
    rfl
  · rw [State.emitLengths_frame]
    exact h

theorem fits_of_emitRun_ok (h : emitRun v s = .ok () t) : s.cli + s.rep ≤ s.seqLen s.seqTable := by
  by_contra hover
  rw [emitRun_over (Nat.lt_of_not_le hover)] at h
  cases h

theorem sequenced_of_readRun {repOf : Nat → Nat} (hn : n ≠ 0) (h : readRun n repOf v s = .ok () t) :
    s.Sequenced t := by
  obtain ⟨raw, u, hraw, hrun⟩ := M.of_bind_ok h
  obtain rfl := of_rbLsb_ok hn hraw
  rw [M.modify_bind] at hrun
  rw [of_emitRun_ok hrun]
  exact State.sequenced_emitLengths _ _ v (fits_of_emitRun_ok hrun)

/-- While a length is missing, a code-length symbol stays within the sequence (R196, R202). -/
theorem sequenced_of_codeLengthSymbol {sym : Nat} (hmissing : s.cli < s.seqLen s.seqTable)
    (h : codeLengthSymbol sym s = .ok () t) : s.Sequenced t := by
  unfold codeLengthSymbol at h
  split_ifs at h
  · cases h
    exact State.sequenced_emitLengths (n := 1) s.cur s.rep sym hmissing
  · rcases Nat.eq_zero_or_pos s.cli with h0 | h0
    · rw [repeatPrevious_first h0] at h
      cases h
    · rw [repeatPrevious_of_pos h0] at h
      exact sequenced_of_readRun (by decide) h
  · exact sequenced_of_readRun (by decide) h
  · exact sequenced_of_readRun (by decide) h

theorem sequenced_of_clseqRound (hmissing : s.cli < s.seqLen s.seqTable) (h : clseqRound s = .ok () t) :
    s.Sequenced t := by
  obtain ⟨sym, u, hsym, hrest⟩ := M.of_bind_ok h
  obtain ⟨l, -, -, rfl⟩ := Tree.of_descend_ok hsym
  rw [M.modify_bind] at hrest
  obtain ⟨hkept, hcli, hd, hll, hbeyond⟩ :=
    sequenced_of_codeLengthSymbol (s := { s with cur := s.cur + l, clsym := sym }) hmissing hrest
  exact ⟨hkept, hcli, hd, hll, hbeyond⟩

/-- The loop ends with its sequence complete (R196). -/
theorem sequenced_of_clseqLoop (hcli : s.cli ≤ s.seqLen s.seqTable) (h : clseqLoop fuel s = .ok () t) :
    s.Sequenced t ∧ t.cli = s.seqLen s.seqTable := by
  induction fuel generalizing s with
  | zero =>
    rcases hcli.eq_or_lt with hdone | hmissing
    · rw [clseqLoop_complete hdone.ge] at h
      cases h
      exact ⟨.refl hcli, hdone⟩
    · simp only [clseqLoop, M.get_bind, if_neg (Nat.not_le.mpr hmissing), M.stuck_apply] at h
      cases h
  | succ fuel ih =>
    rcases hcli.eq_or_lt with hdone | hmissing
    · rw [clseqLoop_complete hdone.ge] at h
      cases h
      exact ⟨.refl hcli, hdone⟩
    · rw [clseqLoop_missing hmissing] at h
      obtain ⟨_, u, hround, hloop⟩ := M.of_bind_ok h
      have hsequenced := sequenced_of_clseqRound hmissing hround
      obtain ⟨hgone, hend⟩ := ih (hsequenced.cli_le.trans_eq hsequenced.seqLen.symm) hloop
      exact ⟨hsequenced.trans hgone, hend.trans hsequenced.seqLen⟩

/-- The whole of CLSEQ, from the first length on (R196, R201). -/
theorem sequenced_of_clseqAll {q : SeqTable} (h : clseqAll q s = .ok () t) :
    (s.beginSequence q).Sequenced t ∧ t.cli = s.seqLen q := by
  rw [clseqAll_apply] at h
  obtain ⟨hsequenced, hend⟩ := sequenced_of_clseqLoop (Nat.zero_le _) h
  refine ⟨hsequenced, hend.trans ?_⟩
  cases q <;> rfl

/-- Keeping the rest of the state is writing nothing but what a sequence writes. -/
theorem State.sequence_frame (h : t.besideSequence = s.besideSequence) :
    t = { s with cur := t.cur, clsym := t.clsym, rep := t.rep, cli := t.cli, llcl := t.llcl, dcl := t.dcl } := by
  calc t = { t.besideSequence with
        cur := t.cur, clsym := t.clsym, rep := t.rep, cli := t.cli, llcl := t.llcl, dcl := t.dcl } := rfl
    _ = _ := by rw [h]; rfl

theorem clseqLoop_grows (fuel : Nat) : Grows (clseqLoop fuel) := by
  induction fuel with
  | zero => exact .bind .reads fun _ => .ite (.returns _) fun _ => .of_footprint rfl
  | succ fuel ih =>
    exact .bind .reads fun _ => .ite (.returns _) <| .bind (htDecode_grows .clt) fun sym =>
      .bind (.update fun _ => rfl) fun _ => .bind (codeLengthSymbol_grows sym) fun _ => ih

theorem clseqAll_grows (q : SeqTable) : Grows (clseqAll q) :=
  .bind (.update fun _ => rfl) fun _ => .bind .reads fun _ => clseqLoop_grows _

/-! ### What a block decoder keeps -/

/-- What of the state belongs to the run and not to the block that runs, with the header of that block
(46_decode_loop.md R262, R265). -/
def State.ofRun (s : State) : Cause × Option Nat × OpResult × Option RunResult × Bool × Nat :=
  (s.err, s.port, s.opResult, s.result, s.bfinal, s.btype)

theorem State.ofRun_cur (s : State) (c : Nat) : ({ s with cur := c } : State).ofRun = s.ofRun := rfl

theorem htBuild_keeps (q : TreeSel) : Keeps State.ofRun (htBuild q) := by
  intro s _ t h
  cases hover : overSubscribed (countLengths (s.lengthsOf q)) with
  | true =>
    rw [htBuild_over hover] at h
    cases h
  | false =>
    rw [htBuild_ok hover] at h
    cases h
    cases q <;> rfl

theorem expandAll_keeps_ofRun : Keeps State.ofRun expandAll :=
  fun s _ t h => show t.besideExpander.ofRun = s.besideExpander.ofRun from congrArg _ (expandAll_keeps s () t h)

theorem clseqAll_keeps (q : SeqTable) : Keeps State.ofRun (clseqAll q) :=
  fun s _ t h => show t.besideSequence.ofRun = (s.beginSequence q).besideSequence.ofRun from
    congrArg _ (sequenced_of_clseqAll h).1.rest

theorem rbAlign_keeps : Keeps State.ofRun rbAlign := by
  intro s _ t h
  rw [rbAlign_ok] at h
  cases h
  rfl

theorem rbBytes_keeps (n : Nat) : Keeps State.ofRun (rbBytes n) := by
  intro s _ t h
  by_cases ha : s.cur % 8 = 0
  · by_cases hn : s.cur / 8 + n ≤ s.inLen
    · rw [rbBytes_ok ha hn] at h
      cases h
      rfl
    · rw [rbBytes_short ha (Nat.lt_of_not_le hn)] at h
      cases h
  · rw [rbBytes_unaligned ha] at h
    cases h

theorem storedBody_keeps : Keeps State.ofRun storedBody :=
  .bind rbAlign_keeps fun _ =>
    .bind (rbLsb_keeps State.ofRun_cur 16) fun _ => .bind (.update fun _ => rfl) fun _ =>
    .bind (rbLsb_keeps State.ofRun_cur 16) fun _ => .bind (.update fun _ => rfl) fun _ =>
    .bind .reads fun _ => .ite
      (.bind (rbBytes_keeps _) fun data => .update fun s => by rw [State.appendAll_frame]; rfl) (.raises _)

theorem fixedSetup_keeps : Keeps State.ofRun fixedSetup :=
  .bind (.update fun _ => rfl) fun _ => .bind (htBuild_keeps .llt) fun _ => .update fun _ => rfl

theorem readClclEntries_keeps (places : List Nat) : Keeps State.ofRun (readClclEntries places) := by
  induction places with
  | nil => exact .returns _
  | cons place places ih =>
    exact .bind (rbLsb_keeps State.ofRun_cur 3) fun _ => .bind (.update fun _ => rfl) fun _ => ih

/-- A count of the dynamic header. -/
theorem readCount_keeps {g : Nat → State → State} (n : Nat) (hg : ∀ raw s, (g raw s).ofRun = s.ofRun) :
    Keeps State.ofRun (rbLsb n >>= fun raw => modify (g raw) : M PUnit) :=
  .bind (rbLsb_keeps State.ofRun_cur n) fun raw => .update (hg raw)

theorem dynamicBlock_keeps : Keeps State.ofRun dynamicBlock :=
  .bind (readCount_keeps 5 fun _ _ => rfl) fun _ => .bind (readCount_keeps 5 fun _ _ => rfl) fun _ =>
    .bind (readCount_keeps 4 fun _ _ => rfl) fun _ =>
    .bind (.bind (.update fun _ => rfl) fun _ => .bind .reads fun _ => readClclEntries_keeps _) fun _ =>
    .bind (htBuild_keeps .clt) fun _ => .bind (clseqAll_keeps .ll) fun _ => .bind (.update fun _ => rfl) fun _ =>
    .bind (clseqAll_keeps .d) fun _ =>
    .bind (.bind (htBuild_keeps .llt) fun _ => .bind (htBuild_keeps .dt) fun _ => .update fun _ => rfl) fun _ =>
    expandAll_keeps_ofRun

theorem readCount_grows {g : Nat → State → State} (n : Nat) (hg : ∀ raw s, (g raw s).footprint = s.footprint) :
    Grows (rbLsb n >>= fun raw => modify (g raw) : M PUnit) :=
  .bind (rbLsb_grows n) fun raw => .update (hg raw)

theorem dynamicBlock_grows : Grows dynamicBlock :=
  .bind (readCount_grows 5 fun _ _ => rfl) fun _ => .bind (readCount_grows 5 fun _ _ => rfl) fun _ =>
    .bind (readCount_grows 4 fun _ _ => rfl) fun _ => .bind readClcl_grows fun _ =>
    .bind (htBuild_grows .clt) fun _ => .bind (clseqAll_grows .ll) fun _ => .bind (.update fun _ => rfl) fun _ =>
    .bind (clseqAll_grows .d) fun _ =>
    .bind (.bind (htBuild_grows .llt) fun _ => .bind (htBuild_grows .dt) fun _ => .update fun _ => rfl) fun _ =>
    expandAll_grows

theorem dispatchBlock_keeps (btype : Nat) : Keeps State.ofRun (dispatchBlock btype) := by
  unfold dispatchBlock
  split
  · exact storedBody_keeps
  · exact .bind fixedSetup_keeps fun _ => expandAll_keeps_ofRun
  · exact dynamicBlock_keeps
  · exact .raises _

theorem dispatchBlock_grows (btype : Nat) : Grows (dispatchBlock btype) := by
  unfold dispatchBlock
  split
  · exact storedBody_grows
  · exact .bind fixedSetup_grows fun _ => expandAll_grows
  · exact dynamicBlock_grows
  · exact .raises _

/-- Only the three block types have a decoder that returns (46_decode_loop.md R263, R264). -/
theorem btype_le_of_dispatchBlock {btype : Nat} (h : dispatchBlock btype s = .ok () t) : btype ≤ 2 := by
  by_contra hlt
  obtain ⟨k, rfl⟩ : ∃ k, btype = k + 3 := ⟨btype - 3, by omega⟩
  have hreserved : dispatchBlock (k + 3) = raise .reservedBlockType := rfl
  rw [hreserved, M.raise_apply] at h
  cases h

/-! ### BLK.HDR -/

/-- The header is three bits (46_decode_loop.md R262). -/
theorem of_readHeader_ok {header : Nat} (h : readHeader s = .ok header t) : t = { s with cur := s.cur + 3 } := by
  obtain ⟨final, u, hfinal, hrest⟩ := M.of_bind_ok h
  obtain ⟨btype, w, hbtype, hw⟩ := M.of_bind_ok hrest
  cases hw
  by_cases hb : s.hasBits 1
  · rw [rbBit_ok hb] at hfinal
    cases hfinal
    exact of_rbLsb_ok (s := { s with cur := s.cur + 1 }) (by decide) hbtype
  · rw [rbBit_short hb] at hfinal
    cases hfinal

/-- The state in which a block decoder is called (46_decode_loop.md R262, R263). -/
def State.atBlock (s : State) (header : Nat) : State :=
  State.enterBlock { s with cur := s.cur + 3 } (header % 2 == 1) (header / 2)

/-- An iteration that ends well is a header, a block decoder that returns, and the end of the block. -/
theorem of_oneBlock_ok (h : oneBlock s = .ok () t) :
    ∃ header u, dispatchBlock (header / 2) (s.atBlock header) = .ok () u ∧ t = u.leaveBlock := by
  rw [oneBlock, M.modify_bind] at h
  obtain ⟨header, u, hheader, hblock⟩ := M.of_bind_ok h
  rw [of_readHeader_ok hheader, M.modify_bind] at hblock
  obtain ⟨_, w, hdispatch, hleave⟩ := M.of_bind_ok hblock
  cases hleave
  exact ⟨header, w, hdispatch, rfl⟩

theorem exec_blkHdr (s : State) : exec .blkHdr s = perform oneBlock s := rfl

/-! ### The obligation -/

/-- A piece run as an instruction ended well or in FAULT. -/
theorem fault_or_ok_of_perform {m : M Unit} (h : perform m s = .next t) : t.fsm = .fault ∨ m s = .ok () t := by
  obtain hok | ⟨c, u, -, rfl⟩ := perform_next h
  · exact .inr hok
  · exact .inl rfl

/-- Settles O45: the loops write their own registers, and no byte of `OUT` is taken back. -/
theorem loopsKeepTheirFrames : Obligations.LoopsKeepTheirFrames := by
  refine ⟨fun s t h => ?_, fun q s t h => ?_, fun s t h => ?_⟩
  · rw [exec_expand] at h
    refine (fault_or_ok_of_perform h).imp_right fun hok => ?_
    obtain ⟨_, u, hall, hreturn⟩ := M.of_bind_ok hok
    cases hreturn
    have hgrows := expandAll_grows.growsTo_of_ok hall
    have hframe := State.expander_frame (expandAll_keeps s () u hall)
    exact ⟨congrArg (State.inPhase · .returned) hframe, hgrows.cur, hgrows.outLen, hgrows.bytes⟩
  · rw [exec_clseq] at h
    refine (fault_or_ok_of_perform h).imp_right fun hok => ?_
    obtain ⟨hsequenced, hend⟩ := sequenced_of_clseqAll hok
    have hframe := State.sequence_frame hsequenced.rest
    have hlen : (s.beginSequence q).seqLen q = s.seqLen q := by cases q <;> rfl
    rw [hend] at hframe
    exact ⟨hframe, ((clseqAll_grows q).growsTo_of_ok hok).cur, hsequenced.dcl, hsequenced.llcl,
      fun j hj => hsequenced.beyond j (hlen.trans_le hj)⟩
  · rw [exec_blkHdr] at h
    refine (fault_or_ok_of_perform h).imp_right fun hok => ?_
    obtain ⟨header, u, hblock, rfl⟩ := of_oneBlock_ok hok
    have hkept := dispatchBlock_keeps _ _ () u hblock
    have hgrows := (dispatchBlock_grows _).growsTo_of_ok hblock
    simp only [State.ofRun, Prod.mk.injEq] at hkept
    obtain ⟨herr, hport, hop, hresult, -, hbtype⟩ := hkept
    exact ⟨hgrows.input, hgrows.inLen, hgrows.cfg, herr, hport, hop, hresult, rfl, rfl, rfl, rfl, rfl,
      hbtype.trans_le (btype_le_of_dispatchBlock hblock), hgrows.cur, hgrows.outLen, hgrows.bytes⟩

end Sys2Proof.Machine
end

section
/-! PROOF. The block decoders do not look at the model's `phase` (log 5). In one piece they run in one phase, step by
step each element has its own; leaving the block takes the phase away (46_decode_loop.md R265). -/

namespace Sys2Proof.Machine

variable {s t : State}

/-! ### The phase is no part of a block -/

theorem rbBytes_phaseBlind (n : Nat) : PhaseBlind (rbBytes n) := by
  intro s p
  by_cases ha : s.cur % 8 = 0
  · by_cases h : s.cur / 8 + n ≤ s.inLen
    · rw [rbBytes_ok ha h]
      exact rbBytes_ok (s := s.inPhase p) ha h
    · rw [rbBytes_short ha (Nat.lt_of_not_le h)]
      exact rbBytes_short (s := s.inPhase p) ha (Nat.lt_of_not_le h)
  · rw [rbBytes_unaligned ha]
    exact rbBytes_unaligned (s := s.inPhase p) ha

theorem rbAlign_phaseBlind : PhaseBlind rbAlign := fun s p => by
  rw [rbAlign_ok, rbAlign_ok]
  rfl

theorem State.appendAll_inPhase (s : State) (data : List Byte) (p : Phase) :
    (s.inPhase p).appendAll data = (s.appendAll data).inPhase p := by
  induction data generalizing s with
  | nil => rfl
  | cons b data ih => exact ih (s.append b)

theorem storedBody_phaseBlind : PhaseBlind storedBody :=
  .bind rbAlign_phaseBlind fun _ =>
    .bind (rbLsb_phaseBlind 16) fun _ => .bind (.modifies fun _ _ => rfl) fun _ =>
    .bind (rbLsb_phaseBlind 16) fun _ => .bind (.modifies fun _ _ => rfl) fun _ =>
    .reads (fun _ _ => rfl) fun _ =>
      .ite (.bind (rbBytes_phaseBlind _) fun data => .modifies fun s p => s.appendAll_inPhase data p) (.raises _)

theorem htBuild_phaseBlind (q : TreeSel) : PhaseBlind (htBuild q) := by
  intro s p
  have hlengths : (s.inPhase p).lengthsOf q = s.lengthsOf q := by cases q <;> rfl
  cases h : overSubscribed (countLengths (s.lengthsOf q)) with
  | true =>
    rw [htBuild_over h, htBuild_over (hlengths ▸ h), hlengths]
    rfl
  | false =>
    rw [htBuild_ok h, htBuild_ok (hlengths ▸ h), hlengths]
    cases q <;> rfl

/-- A count of the dynamic header. -/
theorem readCount_phaseBlind {g : Nat → State → State} (n : Nat)
    (hg : ∀ raw s p, g raw (s.inPhase p) = (g raw s).inPhase p) :
    PhaseBlind (rbLsb n >>= fun raw => modify (g raw) : M PUnit) :=
  .bind (rbLsb_phaseBlind n) fun raw => .modifies (hg raw)

theorem readHlit_phaseBlind : PhaseBlind readHlit := readCount_phaseBlind 5 fun _ _ _ => rfl

theorem readHdist_phaseBlind : PhaseBlind readHdist := readCount_phaseBlind 5 fun _ _ _ => rfl

theorem readHclen_phaseBlind : PhaseBlind readHclen := readCount_phaseBlind 4 fun _ _ _ => rfl

theorem readClclEntries_phaseBlind (places : List Nat) : PhaseBlind (readClclEntries places) := by
  induction places with
  | nil => exact .returns _
  | cons place places ih =>
    exact .bind (rbLsb_phaseBlind 3) fun _ => .bind (.modifies fun _ _ => rfl) fun _ => ih

theorem readClcl_phaseBlind : PhaseBlind readClcl :=
  .bind (.modifies fun _ _ => rfl) fun _ => .reads (fun _ _ => rfl) fun _ => readClclEntries_phaseBlind _

theorem State.emitLength_inPhase (s : State) (v : Nat) (p : Phase) :
    (s.inPhase p).emitLength v = (s.emitLength v).inPhase p := by
  cases h : s.seqTable <;> simp [State.emitLength, State.inPhase, h]

theorem State.emitLengths_inPhase (s : State) (v n : Nat) (p : Phase) :
    (s.inPhase p).emitLengths v n = (s.emitLengths v n).inPhase p := by
  induction n generalizing s with
  | zero => rfl
  | succ n ih => rw [State.emitLengths, State.emitLength_inPhase, ih, State.emitLengths]

theorem emitRun_phaseBlind (v : Nat) : PhaseBlind (emitRun v) := by
  intro s p
  by_cases h : s.cli + s.rep ≤ s.seqLen s.seqTable
  · rw [emitRun_ok h, emitRun_ok (s := s.inPhase p) h]
    exact congrArg _ (s.emitLengths_inPhase v s.rep p)
  · rw [emitRun_over (Nat.lt_of_not_le h)]
    exact emitRun_over (s := s.inPhase p) (Nat.lt_of_not_le h)

theorem readRun_phaseBlind (n v : Nat) (repOf : Nat → Nat) : PhaseBlind (readRun n repOf v) :=
  .bind (rbLsb_phaseBlind n) fun _ => .bind (.modifies fun _ _ => rfl) fun _ => emitRun_phaseBlind v

theorem codeLengthSymbol_phaseBlind (sym : Nat) : PhaseBlind (codeLengthSymbol sym) :=
  .ite (.modifies fun s p => s.emitLength_inPhase sym p) <|
    .ite (.reads (fun _ _ => rfl) fun _ => .ite (.raises _) (readRun_phaseBlind 2 _ rep16Of)) <|
    .ite (readRun_phaseBlind 3 0 zero17Of) (readRun_phaseBlind 7 0 zero18Of)

theorem clseqLoop_phaseBlind (fuel : Nat) : PhaseBlind (clseqLoop fuel) := by
  induction fuel with
  | zero => exact .reads (fun _ _ => rfl) fun _ => .ite (.returns _) fun _ _ => rfl
  | succ fuel ih =>
    exact .reads (fun _ _ => rfl) fun _ => .ite (.returns _) <| .bind (htDecode_phaseBlind .clt) fun sym =>
      .bind (.modifies fun _ _ => rfl) fun _ => .bind (codeLengthSymbol_phaseBlind sym) fun _ => ih

theorem clseqAll_phaseBlind (q : SeqTable) : PhaseBlind (clseqAll q) :=
  .bind (.modifies fun _ _ => rfl) fun _ => .reads (fun _ _ => by cases q <;> rfl) fun _ => clseqLoop_phaseBlind _

theorem buildBlockTrees_phaseBlind : PhaseBlind buildBlockTrees :=
  .bind (htBuild_phaseBlind .llt) fun _ => .bind (htBuild_phaseBlind .dt) fun _ => .modifies fun _ _ => rfl

theorem lengthSymbol_phaseBlind (sym : Nat) : PhaseBlind (lengthSymbol sym) :=
  .ite (.modifies fun _ _ => rfl) <| .ite (.modifies fun _ _ => rfl) <|
    .bind (.modifies fun _ _ => rfl) fun _ => .bind (rbLsb_phaseBlind _) fun _ => .modifies fun _ _ => rfl

theorem expandRound_phaseBlind : PhaseBlind expandRound :=
  .bind (.bind (htDecode_phaseBlind .llt) fun _ => .bind (.modifies fun _ _ => rfl) fun _ => .returns _) fun sym =>
    .ite (.bind (.modifies fun _ _ => rfl) fun _ => .returns _) <| .ite (.returns _) <|
    .ite (.bind (lengthSymbol_phaseBlind sym) fun _ => .bind expandMatch_phaseBlind fun _ => .returns _) (.raises _)

theorem expandLoop_phaseBlind (fuel : Nat) : PhaseBlind (expandLoop fuel) := by
  induction fuel with
  | zero => exact fun _ _ => rfl
  | succ fuel ih =>
    rw [expandLoop_succ]
    exact .bind expandRound_phaseBlind fun _ => .ite (.returns _) ih

theorem expandAll_phaseBlind : PhaseBlind expandAll := .reads (fun _ _ => rfl) fun _ => expandLoop_phaseBlind _

theorem dynamicBlock_phaseBlind : PhaseBlind dynamicBlock :=
  .bind readHlit_phaseBlind fun _ => .bind readHdist_phaseBlind fun _ =>
    .bind readHclen_phaseBlind fun _ => .bind readClcl_phaseBlind fun _ =>
    .bind (htBuild_phaseBlind .clt) fun _ => .bind (clseqAll_phaseBlind .ll) fun _ =>
    .bind (.modifies fun _ _ => rfl) fun _ => .bind (clseqAll_phaseBlind .d) fun _ =>
    .bind buildBlockTrees_phaseBlind fun _ => expandAll_phaseBlind

end Sys2Proof.Machine
end

section
/-! PROOF. BLK.HDR in one piece and step by step (46_decode_loop.md R263, R265). What is left of the block agrees with
the steps from every element that begins a part of it: the expander, the two sequences of code lengths, and the header
fields, in the order from the end of the block to its beginning. -/

namespace Sys2Proof.Machine

variable {s t u : State} {p p' : Phase} {m n rest : M Unit} {g : State → State}

/-! ### Steps one after another -/

theorem run_succ_of_step {k : Nat} (h : step s = .next t) : core.run (k + 1) s = core.run k t := by
  have hcore : core.step s = .next t := h
  simp only [Host.Core.run, hcore]

/-- What is left to run after steps that went well. -/
theorem run_add {j k : Nat} (h : core.run j s = .next t) : core.run (j + k) s = core.run k t := by
  induction j generalizing s with
  | zero =>
    cases h
    rw [Nat.zero_add]
  | succ j ih =>
    rw [Nat.succ_add]
    cases hstep : step s with
    | next v =>
      rw [run_succ_of_step hstep] at h ⊢
      exact ih h
    | fault r | refused r =>
      have hcore : core.step s = _ := hstep
      simp only [Host.Core.run, hcore] at h
      cases h

theorem StepsTo.trans (h : StepsTo s t) (h' : StepsTo t u) : StepsTo s u := by
  obtain ⟨j, hj⟩ := h
  obtain ⟨k, hk⟩ := h'
  exact ⟨j + k, (run_add hj).trans hk⟩

/-- Steps keep the run in order. -/
theorem StepsTo.inv (hs : s.Inv) (h : StepsTo s t) : t.Inv := by
  obtain ⟨k, hk⟩ := h
  induction k generalizing s with
  | zero =>
    cases hk
    exact hs
  | succ k ih =>
    obtain ⟨v, hnext, hv⟩ := everyStepKeepsTheRunInOrder s hs
    rw [run_succ_of_step hnext] at hk
    exact ih hv hk

/-- Where a piece ends as the steps do, what follows it goes on with the steps behind them. `g` is what the steps have
done already that the piece has not: they are one phase ahead. -/
theorem AgreesWithSteps.andThen (h : AgreesWithSteps (perform (m >>= fun _ => modify g) s) s)
    (hg : ∀ t, m s = .ok () t → (g t).fsm ≠ .fault)
    (hrest : ∀ t, m s = .ok () t → StepsTo s (g t) → AgreesWithSteps (perform rest t) (g t)) :
    AgreesWithSteps (perform (m >>= fun _ => rest) s) s := by
  obtain ⟨t, u, ho, hsteps, hsame⟩ := h
  cases hm : m s with
  | error e v =>
    rw [perform, M.bind_of_error _ hm] at ho
    rw [perform, M.bind_of_error _ hm]
    exact ⟨t, u, ho, hsteps, hsame⟩
  | ok _ v =>
    rw [perform_congr (M.bind_of_ok _ hm)] at ho
    cases ho
    obtain ⟨hfault, -⟩ | ⟨-, rfl⟩ := hsame
    · exact absurd hfault (hg v hm)
    · obtain ⟨w, x, ho', hsteps', hsame'⟩ := hrest v hm hsteps
      rw [perform_congr (M.bind_of_ok _ hm)]
      exact ⟨w, x, ho', hsteps.trans hsteps', hsame'⟩

/-! ### Pieces that come to the same from every phase -/

/-- The piece comes to the same outcome from every phase. -/
def PhaseFree (m : M Unit) : Prop := ∀ s p, perform m (s.inPhase p) = perform m s

theorem PhaseFree.after (hm : PhaseBlind m) (hrest : PhaseFree rest) : PhaseFree (m >>= fun _ => rest) := by
  intro s p
  have h := hm s p
  cases hs : m s with
  | ok _ t =>
    rw [hs] at h
    rw [perform_congr (M.bind_of_ok _ h), perform_congr (M.bind_of_ok _ hs), hrest t p]
  | error e t =>
    rw [hs] at h
    rw [perform, M.bind_of_error _ h, perform, M.bind_of_error _ hs]
    exact trapped_inPhase e t p

theorem PhaseFree.perform_after_inPhase (h : PhaseFree m) (p : Phase) (s : State) :
    perform ((modify (State.inPhase · p) : M PUnit) >>= fun _ => m) s = perform m s := h s p

/-- The end of a block (R265). -/
def leaving : M Unit := modify fun s => s.leaveBlock

theorem leaving_phaseFree : PhaseFree leaving := fun _ _ => rfl

/-! ### An element and the rest of its block -/

/-- A block decoder, in order, waits for the element of a phase (log 5). -/
structure State.Waits (s : State) (p : Phase) : Prop where
  inv : s.Inv
  fsm : s.fsm = .dispatching
  phase : s.phase = p

theorem State.Waits.inOrder (h : s.Waits p) : s.InOrder := h.inv.inOrder (by simp [h.fsm])

theorem State.Waits.busy (h : s.Waits p) : s.Busy := h.inOrder.busy h.fsm

theorem State.InOrder.waits (h : s.InOrder) (hinv : s.Inv) (hp : s.phase = p) (hidle : p ≠ .idle) : s.Waits p where
  inv := hinv
  fsm := not_not.mp fun hf => hidle (hp.symm.trans (h.running.phaseByFsm.mpr hf))
  phase := hp

/-- A run that is not over is in order. -/
theorem State.Inv.inOrder_of_not_over (h : s.Inv) (hover : s.over = false) : s.InOrder :=
  h.inOrder fun hf => by simp [State.over, hf] at hover

/-- An element agrees with its step, and what follows it with the steps behind that. -/
theorem element_agrees (hs : s.Inv) (hover : s.over = false) (he : element s = (m >>= fun _ => modify g) s)
    (hg : ∀ t, (g t).phase = p') (hidle : p' ≠ .idle)
    (hrest : ∀ t, m s = .ok () t → (g t).Waits p' → AgreesWithSteps (perform rest t) (g t)) :
    AgreesWithSteps (perform (m >>= fun _ => rest) s) s := by
  obtain ⟨v, hnext, -⟩ := everyStepKeepsTheRunInOrder s hs
  have hstep : step s = perform (m >>= fun _ => modify g) s :=
    (step_eq_perform hs.portEmpty).trans (perform_congr he)
  have hmeets := element_meets (hs.inOrder_of_not_over hover) hs.portEmpty hover
  have horder : ∀ t, m s = .ok () t → (g t).InOrder := fun t ht => hmeets.ok () (g t) (he.trans (M.bind_of_ok _ ht))
  refine (agreesWithSteps_of_eq_step hnext hstep.symm).andThen (fun t ht => (horder t ht).fsm) fun t ht hsteps => ?_
  exact hrest t ht ((horder t ht).waits (hsteps.inv hs) (hg t) hidle)

/-- The phases that an element leaves standing, with nothing to do before the next. -/
def Phase.standing (p : Phase) : Bool := p ∈ [Phase.storedBody, .hlit, .hdist, .hclen, .clcl, .expand, .distance]

theorem Phase.ne_idle_of_standing (h : p.standing = true) : p ≠ .idle := by
  rintro rfl
  cases h

theorem settle_inPhase (h : p.standing = true) (s : State) : settle (s.inPhase p) = .ok () (s.inPhase p) := by
  refine settle_waiting (s := s.inPhase p) ?_ ?_ ?_ <;> rintro rfl <;> cases h

/-- Behind a phase that is left standing there are no statements to run. -/
theorem modify_inPhase_settle (h : p.standing = true) :
    ((modify (State.inPhase · p) : M PUnit) >>= fun _ => settle) = modify (State.inPhase · p) :=
  funext fun s => settle_inPhase h s

/-- The groups that are read without looking at a bit of the stream, by their phases. -/
def groups : List (Phase × ElementWord) :=
  [(.storedBody, ⟨.st, 0⟩), (.hlit, ⟨.dh, 0⟩), (.hdist, ⟨.dh, 5⟩), (.hclen, ⟨.dh, 10⟩), (.clcl, ⟨.cll, 0⟩)]

/-- What a group of the stream runs is its meaning, and then the statements that follow it. -/
theorem element_of_group {w : ElementWord} (hw : s.Waits p) (h : (p, w) ∈ groups) :
    element s = (elementMeaning w >>= fun _ => settle) s :=
  M.bind_of_ok _ ((fetch_dispatching hw.inv.portEmpty hw.fsm).trans (fetchElement_group (hw.phase ▸ h)))

/-- A count of the dynamic header, which leads to another phase. -/
theorem count_agrees {w : ElementWord} (hw : s.Waits p) (h : (p, w) ∈ groups)
    (hm : elementMeaning w = m >>= fun _ => modify (State.inPhase · p')) (hp : p'.standing = true)
    (hfree : PhaseFree rest) (hrest : ∀ t, t.Waits p' → AgreesWithSteps (perform rest t) t) :
    AgreesWithSteps (perform (m >>= fun _ => rest) s) s := by
  have he : element s = (m >>= fun _ => modify (State.inPhase · p')) s := by
    rw [element_of_group hw h, hm, bind_assoc, modify_inPhase_settle hp]
  refine element_agrees hw.inv hw.busy.not_over he (fun _ => rfl) (Phase.ne_idle_of_standing hp) fun t _ ht => ?_
  rw [← hfree t p']
  exact hrest _ ht

/-! ### The expander -/

/-- From its first symbol on, EXPAND and the end of the block agree with the steps (45_lz77.md R220). -/
theorem expandThenLeave_agrees (hw : s.Waits .expand) :
    AgreesWithSteps (perform (expandAll >>= fun _ => leaving) s) s := by
  have hat : s.AtSymbol := ⟨hw.fsm, hw.phase⟩
  have hreturn : (expandAll >>= fun _ => leaving) s = (expandLoop (8 * s.inLen + 1) >>= fun _ => expandReturn) s := by
    have hall := expandAll_apply s
    cases hm : expandLoop (8 * s.inLen + 1) s with
    | error e t => rw [M.bind_of_error _ (hall.trans hm), M.bind_of_error _ hm]
    | ok _ t =>
      have ht := hat.of_keeps (expandLoop_keeps _ s () t hm)
      rw [M.bind_of_ok _ (hall.trans hm), M.bind_of_ok _ hm]
      exact (settle_returned (s := t.inPhase .returned) (by simp [State.over, State.inPhase, ht.1]) rfl).symm
  rw [perform_congr hreturn]
  exact expandLoop_agrees hw.inv hat (Nat.lt_succ_of_le (Nat.sub_le _ _))

/-! ### The sequences of code lengths -/

/-- A build writes the builder's registers and a tree (41_huffman.md R150). -/
theorem fsm_of_htBuild_ok {q : TreeSel} (h : htBuild q s = .ok () t) : t.fsm = s.fsm := by
  cases hover : overSubscribed (countLengths (s.lengthsOf q)) with
  | true =>
    rw [htBuild_over hover] at h
    cases h
  | false =>
    rw [htBuild_ok hover] at h
    cases h
    exact State.setTree_fsm _ _ _

theorem fsm_of_buildBlockTrees_ok (h : buildBlockTrees s = .ok () t) : t.fsm = s.fsm := by
  obtain ⟨_, u, hllt, hrest⟩ := M.of_bind_ok h
  obtain ⟨_, v, hdt, hv⟩ := M.of_bind_ok hrest
  cases hv
  exact (fsm_of_htBuild_ok hdt).trans (fsm_of_htBuild_ok hllt)

/-- A sequence that has just begun: CLSEQ begins it where it stands (44_dynamic.md R196, R201). -/
structure State.BeginsSequence (s : State) (q : SeqTable) : Prop where
  waits : s.Waits .codeLengths
  seqTable : s.seqTable = q
  cli : s.cli = 0

theorem State.BeginsSequence.beginSequence {q : SeqTable} (h : s.BeginsSequence q) : s.beginSequence q = s := by
  rw [State.beginSequence, ← h.seqTable, ← h.cli]

/-- The statements that end a sequence follow its last symbol (R196). -/
theorem settle_of_clseqAll {q : SeqTable} (h : s.BeginsSequence q) (hm : clseqAll q s = .ok () t) :
    settle t = endSequence q t ∧ t.fsm = .dispatching := by
  obtain ⟨hsequenced, hend⟩ := sequenced_of_clseqAll hm
  rw [h.beginSequence] at hsequenced
  have hf : t.fsm = .dispatching := (congrArg (·.fsm) hsequenced.rest).trans h.waits.fsm
  have hp : t.phase = .codeLengths := (congrArg (·.phase) hsequenced.rest).trans h.waits.phase
  have hlen : t.seqLen t.seqTable ≤ t.cli := by rw [hsequenced.seqLen, h.seqTable, hend]
  refine ⟨?_, hf⟩
  rw [settle_codeLengths (by simp [State.over, hf]) hp, if_pos hlen, hsequenced.seqTable, h.seqTable]

/-- A sequence and the statements that end it agree with the steps of its symbols (R196). -/
theorem sequence_agrees {q : SeqTable} (h : s.BeginsSequence q) (hn : endSequence q = n >>= fun _ => modify g)
    (hfsm : ∀ t u, n t = .ok () u → (g u).fsm = t.fsm)
    (hrest : ∀ t, (clseqAll q >>= fun _ => n) s = .ok () t → (g t).Inv → (g t).fsm = .dispatching →
      AgreesWithSteps (perform rest t) (g t)) :
    AgreesWithSteps (perform ((clseqAll q >>= fun _ => n) >>= fun _ => rest) s) s := by
  have hall : clseqAll q s = clseqLoop (s.seqLen s.seqTable) s := by
    rw [clseqAll_apply, h.beginSequence, h.seqTable]
  have hpiece : ((clseqAll q >>= fun _ => n) >>= fun _ => modify g) s =
      (clseqLoop (s.seqLen s.seqTable) >>= fun _ => settle) s := by
    rw [bind_assoc, ← hn]
    cases hm : clseqAll q s with
    | error e t => rw [M.bind_of_error _ hm, M.bind_of_error _ (hall.symm.trans hm)]
    | ok _ t => rw [M.bind_of_ok _ hm, M.bind_of_ok _ (hall.symm.trans hm), (settle_of_clseqAll h hm).1]
  have hdispatching : ∀ t, (clseqAll q >>= fun _ => n) s = .ok () t → (g t).fsm = .dispatching := fun t ht => by
    obtain ⟨_, u, hu, hnu⟩ := M.of_bind_ok ht
    exact (hfsm u t hnu).trans (settle_of_clseqAll h hu).2
  have hagree := clseqLoop_agrees h.waits.inOrder h.waits.inv.portEmpty h.waits.fsm h.waits.phase (Nat.le_add_left _ _)
  rw [← perform_congr hpiece] at hagree
  refine hagree.andThen (fun t ht => by simp [hdispatching t ht]) fun t ht hsteps => ?_
  exact hrest t ht (hsteps.inv h.waits.inv) (hdispatching t ht)

/-- What a block decoder does from the distance lengths on (44_dynamic.md R190). -/
def fromDistanceLengths : M Unit := do
  clseqAll .d
  buildBlockTrees
  expandAll
  leaving

/-- What a block decoder does from the literal/length lengths on (R190). -/
def fromLiteralLengths : M Unit := do
  clseqAll .ll
  modify fun s => s.clearUnusedLengths
  fromDistanceLengths

theorem expandThenLeave_phaseFree : PhaseFree (expandAll >>= fun _ => leaving) :=
  .after expandAll_phaseBlind leaving_phaseFree

theorem fromDistanceLengths_phaseFree : PhaseFree fromDistanceLengths :=
  .after (clseqAll_phaseBlind .d) <| .after buildBlockTrees_phaseBlind expandThenLeave_phaseFree

theorem fromLiteralLengths_phaseFree : PhaseFree fromLiteralLengths :=
  .after (clseqAll_phaseBlind .ll) <| .after (.modifies fun _ _ => rfl) fromDistanceLengths_phaseFree

/-- The distance lengths lead to both trees and to EXPAND (R204). -/
theorem fromDistanceLengths_agrees (h : s.BeginsSequence .d) :
    AgreesWithSteps (perform fromDistanceLengths s) s := by
  have hagree := sequence_agrees (rest := expandAll >>= fun _ => leaving) (n := buildBlockTrees)
    (g := (State.inPhase · .expand)) h rfl (fun _ u hn => fsm_of_buildBlockTrees_ok (t := u) hn) fun t _ hinv hf => by
      rw [← expandThenLeave_phaseFree t .expand]
      exact expandThenLeave_agrees ⟨hinv, hf, rfl⟩
  rwa [bind_assoc] at hagree

/-- The literal/length lengths lead to the distance lengths (R201, R203). -/
theorem fromLiteralLengths_agrees (h : s.BeginsSequence .ll) :
    AgreesWithSteps (perform fromLiteralLengths s) s := by
  have hagree := sequence_agrees (rest := fromDistanceLengths) (n := modify fun s => s.clearUnusedLengths)
    (g := (State.beginSequence · .d)) h rfl (fun _ _ hn => by cases hn; rfl) fun t ht hinv hf => by
      have hphase : t.phase = .codeLengths := by
        obtain ⟨_, u, hu, hclear⟩ := M.of_bind_ok ht
        cases hclear
        exact (congrArg (·.phase) (sequenced_of_clseqAll hu).1.rest).trans h.waits.phase
      exact fromDistanceLengths_agrees ⟨⟨hinv, hf, hphase⟩, rfl, rfl⟩
  rwa [bind_assoc] at hagree

/-! ### The dynamic header -/

/-- The lengths of the code-length alphabet and the build of `CLT`, as their step runs them: the build has a phase of
its own (R194, R195, log 5). -/
def codeLengthTree : M Unit := do
  readClcl
  modify (State.inPhase · .buildClt)
  htBuild .clt

theorem element_clcl (hw : s.Waits .clcl) : element s = (codeLengthTree >>= fun _ =>
    modify fun t => (t.beginSequence .ll).inPhase .codeLengths) s := by
  have hbusy := clcl_meets hw.busy (hw.phase ▸ hw.busy.ready)
  have hm : elementMeaning ⟨.cll, 0⟩ = readClcl >>= fun _ => modify (State.inPhase · .buildClt) := rfl
  rw [element_of_group hw (w := ⟨.cll, 0⟩) (by decide)]
  rw [hm] at hbusy ⊢
  simp only [codeLengthTree, bind_assoc]
  cases hread : readClcl s with
  | error e t => rw [M.bind_of_error _ hread, M.bind_of_error _ hread]
  | ok _ t =>
    have hover := (hbusy.ok () (t.inPhase .buildClt) (M.bind_of_ok _ hread)).not_over
    rw [M.bind_of_ok _ hread, M.bind_of_ok _ hread, M.modify_bind, M.modify_bind, settle_buildClt hover rfl]
    rfl

/-- What is left to run may be exchanged for what comes to the same. -/
theorem perform_bind_congr {m' : M Unit} (h : ∀ t, perform rest t = perform m' t) (s : State) :
    perform (m >>= fun _ => rest) s = perform (m >>= fun _ => m') s := by
  cases hm : m s with
  | error e t => rw [perform, M.bind_of_error _ hm, perform, M.bind_of_error _ hm]
  | ok _ t => rw [perform_congr (M.bind_of_ok _ hm), perform_congr (M.bind_of_ok _ hm), h t]

/-- CLSEQ begins its sequence, so beginning it before changes nothing (R196). -/
theorem perform_fromLiteralLengths (s : State) :
    perform fromLiteralLengths (s.beginSequence .ll) = perform fromLiteralLengths s :=
  perform_congr <| M.bind_congr_left _ <| (clseqAll_apply .ll _).trans (clseqAll_apply .ll s).symm

/-- What a block decoder does from the code-length lengths on (R190). -/
def fromClcl : M Unit := do
  readClcl
  htBuild .clt
  fromLiteralLengths

theorem fromClcl_phaseFree : PhaseFree fromClcl :=
  .after readClcl_phaseBlind <| .after (htBuild_phaseBlind .clt) fromLiteralLengths_phaseFree

theorem fromClcl_agrees (hw : s.Waits .clcl) : AgreesWithSteps (perform fromClcl s) s := by
  have hfree : PhaseFree (htBuild .clt >>= fun _ => fromLiteralLengths) :=
    .after (htBuild_phaseBlind .clt) fromLiteralLengths_phaseFree
  have hphase : perform fromClcl s = perform (codeLengthTree >>= fun _ => fromLiteralLengths) s := by
    simp only [codeLengthTree, bind_assoc]
    exact perform_bind_congr (fun t => (hfree.perform_after_inPhase .buildClt t).symm) s
  rw [hphase]
  refine element_agrees (p' := .codeLengths) hw.inv hw.busy.not_over (element_clcl hw) (fun _ => rfl) nofun
    fun t _ ht => ?_
  rw [← perform_fromLiteralLengths, ← fromLiteralLengths_phaseFree _ .codeLengths]
  exact fromLiteralLengths_agrees ⟨ht, rfl, rfl⟩

/-- The whole of a dynamic block (R190). -/
theorem dynamicBlock_agrees (hw : s.Waits .hlit) :
    AgreesWithSteps (perform (dynamicBlock >>= fun _ => leaving) s) s := by
  have hhclen := PhaseFree.after readHclen_phaseBlind fromClcl_phaseFree
  have hhdist := PhaseFree.after readHdist_phaseBlind hhclen
  have hpieces : (dynamicBlock >>= fun _ => leaving) =
      readHlit >>= fun _ => readHdist >>= fun _ => readHclen >>= fun _ => fromClcl := by
    simp only [dynamicBlock, fromClcl, fromLiteralLengths, fromDistanceLengths, bind_assoc]
  rw [hpieces]
  refine count_agrees (w := ⟨.dh, 0⟩) (p' := .hdist) hw (by decide) rfl rfl hhdist fun t ht => ?_
  refine count_agrees (w := ⟨.dh, 5⟩) (p' := .hclen) ht (by decide) rfl rfl hhclen fun u hu => ?_
  exact count_agrees (w := ⟨.dh, 10⟩) (p' := .clcl) hu (by decide) rfl rfl fromClcl_phaseFree
    fun v => fromClcl_agrees

/-! ### The stored block -/

/-- The stored body is one element, and the block ends in its step (42_stored.md R170, 46_decode_loop.md R265). -/
theorem storedBody_agrees (hw : s.Waits .storedBody) :
    AgreesWithSteps (perform (storedBody >>= fun _ => leaving) s) s := by
  obtain ⟨v, hnext, -⟩ := everyStepKeepsTheRunInOrder s hw.inv
  have hmeets := storedBody_meets hw.busy.sound
  have helement : element s = (storedBody >>= fun _ => leaving) s := by
    rw [element_of_group hw (w := ⟨.st, 0⟩) (by decide)]
    have hm : elementMeaning ⟨.st, 0⟩ = storedBody >>= fun _ => modify (State.inPhase · .returned) := rfl
    rw [hm, bind_assoc]
    cases hbody : storedBody s with
    | error e t => rw [M.bind_of_error _ hbody, M.bind_of_error _ hbody]
    | ok _ t =>
      obtain ⟨-, hkept, -⟩ := hmeets.ok () t hbody
      have hf : t.fsm = .dispatching := hkept.trans hw.fsm
      rw [M.bind_of_ok _ hbody, M.bind_of_ok _ hbody]
      exact settle_returned (s := t.inPhase .returned) (by simp [State.over, State.inPhase, hf]) rfl
  exact agreesWithSteps_of_eq_step hnext (((step_eq_perform hw.inv.portEmpty).trans (perform_congr helement)).symm)

/-! ### The header -/

/-- The block behind a header, from the phase its decoder begins in. -/
theorem oneBlock_apply (s : State) (hf : s.fsm = .readingHeader) :
    oneBlock s = (readHeader >>= fun header => modify (State.enterBlock · (headerFinal header) (headerType header)) >>=
      fun _ => dispatchBlock (headerType header) >>= fun _ => leaving) s := by
  have hs : ({ s with fsm := .readingHeader } : State) = s := by rw [← hf]
  rw [oneBlock, M.modify_bind, hs]
  rfl

theorem element_readingHeader (hport : s.port = none) (hf : s.fsm = .readingHeader) :
    element s = (readHeader >>= fun header => headerMeaning header >>= fun _ => settle) s := by
  rw [element, M.bind_congr_left _ (fetch_readingHeader hport hf), bind_assoc]
  rfl

/-- What the step of a header runs: the block is entered, its decoder does `m` and goes on to the phase `p`
(R262, R263). -/
def entering (header btype : Nat) (m : M Unit) (p : Phase) : M Unit := do
  modify (State.enterBlock · (headerFinal header) btype)
  m
  modify (State.inPhase · p)

/-- A block decoder that is entered in the step of its header agrees with that step and those behind it. -/
theorem entered_agrees {header btype : Nat} (m : M Unit) (hs : s.Inv) (hf : s.fsm = .readingHeader)
    (hheader : readHeader s = .ok header t) (hmeaning : headerMeaning header = entering header btype m p)
    (hp : p.standing = true) (hfree : PhaseFree rest)
    (hrest : ∀ t, t.Waits p → AgreesWithSteps (perform rest t) t) :
    AgreesWithSteps (perform (m >>= fun _ => rest) (t.enterBlock (headerFinal header) btype)) s := by
  have hread := (element_readingHeader hs.portEmpty hf).trans (M.bind_of_ok _ hheader)
  have he : element s = ((readHeader >>= fun _ => modify (State.enterBlock · (headerFinal header) btype) >>=
      fun _ => m) >>= fun _ => modify (State.inPhase · p)) s := by
    rw [hread, hmeaning, bind_assoc, M.bind_of_ok _ hheader]
    simp only [entering, bind_assoc, modify_inPhase_settle hp]
  have hpiece : perform (m >>= fun _ => rest) (t.enterBlock (headerFinal header) btype) =
      perform ((readHeader >>= fun _ => modify (State.enterBlock · (headerFinal header) btype) >>= fun _ => m) >>=
        fun _ => rest) s := by
    rw [bind_assoc, perform_congr (M.bind_of_ok _ hheader), bind_assoc]
    rfl
  rw [hpiece]
  refine element_agrees hs (by simp [State.over, hf]) he (fun _ => rfl) (Phase.ne_idle_of_standing hp) fun u _ hu => ?_
  rw [← hfree u p]
  exact hrest _ hu

/-- The block behind a header, by its type (R263, R264). -/
theorem dispatchBlock_agrees {header : Nat} (hs : s.Inv) (hf : s.fsm = .readingHeader)
    (hheader : readHeader s = .ok header t) :
    AgreesWithSteps (perform (dispatchBlock (headerType header) >>= fun _ => leaving)
      (t.enterBlock (headerFinal header) (headerType header))) s := by
  have hbits : header < 8 := (readHeader_meets (Q := fun bits _ => bits < 8) fun _ h _ => h).ok header t hheader
  obtain htype | htype | htype | htype : headerType header = 0 ∨ headerType header = 1 ∨ headerType header = 2 ∨
      headerType header = 3 := by
    unfold headerType
    omega
  all_goals rw [htype]
  · have hmeaning : headerMeaning header = entering header 0 (pure ()) .storedBody := by
      rw [headerMeaning, htype]
      rfl
    exact entered_agrees (pure ()) (rest := storedBody >>= fun _ => leaving) hs hf hheader hmeaning rfl
      (.after storedBody_phaseBlind leaving_phaseFree) fun u => storedBody_agrees
  · have hmeaning : headerMeaning header = entering header 1 fixedSetup .expand := by
      rw [headerMeaning, htype]
      rfl
    have hagree := entered_agrees fixedSetup hs hf hheader hmeaning rfl expandThenLeave_phaseFree
      fun u => expandThenLeave_agrees
    rwa [← bind_assoc] at hagree
  · have hmeaning : headerMeaning header = entering header 2 (pure ()) .hlit := by
      rw [headerMeaning, htype]
      rfl
    exact entered_agrees (pure ()) (rest := dynamicBlock >>= fun _ => leaving) hs hf hheader hmeaning rfl
      (.after dynamicBlock_phaseBlind leaving_phaseFree) fun u => dynamicBlock_agrees
  · obtain ⟨v, hnext, -⟩ := everyStepKeepsTheRunInOrder s hs
    refine agreesWithSteps_of_eq_step hnext ?_
    rw [step_eq_perform hs.portEmpty, perform_congr (element_readingHeader hs.portEmpty hf),
      perform_congr (M.bind_of_ok _ hheader), headerMeaning, htype]
    rfl

theorem oneBlock_agrees (hs : s.Inv) (hf : s.fsm = .readingHeader) : AgreesWithSteps (perform oneBlock s) s := by
  rw [perform_congr (oneBlock_apply s hf)]
  cases hheader : readHeader s with
  | error e t =>
    obtain ⟨v, hnext, -⟩ := everyStepKeepsTheRunInOrder s hs
    refine agreesWithSteps_of_eq_step hnext ?_
    rw [step_eq_perform hs.portEmpty, perform_congr (element_readingHeader hs.portEmpty hf), perform, perform,
      M.bind_of_error _ hheader, M.bind_of_error _ hheader]
  | ok header t =>
    rw [perform_congr (M.bind_of_ok _ hheader)]
    exact dispatchBlock_agrees hs hf hheader

/-- Settles O46: what is left of a block agrees with its steps from every element on that begins a part of it. -/
theorem blockInOnePieceAgreesWithItsElements : Obligations.BlockInOnePieceAgreesWithItsElements :=
  fun _ hs hf => oneBlock_agrees hs hf

end Sys2Proof.Machine
end

section
/-! PROOF. LAUNCH and the run behind it (46_decode_loop.md R260, R266, R270, 70_reset_and_hazards.md R310). Every
element consumes input, so the steps come to an end; the loop of the whole run agrees with them block by block; and a
run that is over only hands over its result, however many steps more are taken. -/

namespace Sys2Proof.Machine

variable {α β : Type} {s t u v : State}

/-! ### The launch -/

theorem exec_launch (bytes : List Byte) (s : State) : exec (.launch bytes) s = .next (s.launch bytes) := rfl

theorem State.launch_sound (s : State) (bytes : List Byte) : (s.launch bytes).Sound :=
  { State.reset_sound with
    inputForm := ⟨Memory.ofBytes_wf bytes, Memory.ofBytes_within bytes⟩
    cursor := Nat.zero_le _ }

/-- A launched run is in order, with no block decoder running (R260, 10_state.md R41). -/
theorem State.launch_inv (s : State) (bytes : List Byte) : (s.launch bytes).Inv :=
  State.InOrder.inv ⟨nofun, rfl, State.running_of_idle (s.launch_sound bytes) rfl nofun ⟨rfl, rfl, rfl⟩⟩ rfl

/-- Settles O2: each value as LAUNCH writes it; of the state before, only the configuration is left. -/
theorem launchStartsAFreshRun : Obligations.LaunchStartsAFreshRun := by
  intro bytes s
  refine ⟨s.launch bytes, exec_launch bytes s, Memory.bytes_ofBytes bytes, rfl, rfl, rfl, rfl, rfl, rfl, rfl, rfl, rfl,
    rfl, s.launch_inv bytes, fun s' hcfg => ?_⟩
  rw [exec_launch, State.launch, State.launch, hcfg]

/-! ### Every element consumes input -/

/-- Run from `s`, where the piece ends well, it has moved the cursor. -/
def ConsumesAt (m : M α) (s : State) : Prop := ∀ a t, m s = .ok a t → s.cur < t.cur

section
variable {m n : M α} {f : α → M β}

/-- A piece that consumes, and what follows it. -/
theorem ConsumesAt.bind (hm : ConsumesAt m s) (hf : ∀ a, Grows (f a)) : ConsumesAt (m >>= f) s := by
  intro b u h
  obtain ⟨a, t, ha, hb⟩ := M.of_bind_ok h
  exact (hm a t ha).trans_le ((hf a).cur_le hb)

/-- A piece that consumes, and what comes before it. -/
theorem Grows.consumesAt_bind (hm : Grows m) (hf : ∀ a t, m s = .ok a t → ConsumesAt (f a) t) :
    ConsumesAt (m >>= f) s := by
  intro b u h
  obtain ⟨a, t, ha, hb⟩ := M.of_bind_ok h
  exact (hm.cur_le ha).trans_lt (hf a t ha b u hb)

theorem consumesAt_of_eq (h : m s = n t) (hcur : s.cur = t.cur) (hn : ConsumesAt n t) : ConsumesAt m s :=
  fun a u hu => hcur ▸ hn a u (h.symm.trans hu)

end

theorem rbLsb_consumesAt {n : Nat} (hn : n ≠ 0) (s : State) : ConsumesAt (rbLsb n) s := fun raw t h => by
  rw [of_rbLsb_ok hn h]
  exact Nat.lt_add_of_pos_right (Nat.pos_of_ne_zero hn)

theorem rbMsb_consumesAt {n : Nat} (hn : n ≠ 0) (s : State) : ConsumesAt (rbMsb n) s := fun raw t h => by
  by_cases hb : s.hasBits n
  · rw [rbMsb_ok hb] at h
    cases h
    exact Nat.lt_add_of_pos_right (Nat.pos_of_ne_zero hn)
  · obtain ⟨u, hu⟩ := rbMsb_short_of_pos hn hb
    rw [hu] at h
    cases h

/-- A code of a built tree has at least one bit (41_huffman.md R159). -/
theorem htDecode_consumesAt {n : Nat} {q : TreeSel} (hb : (s.tree q).built n = true) : ConsumesAt (htDecode q) s := by
  intro sym t h
  obtain ⟨l, -, hleaf, rfl⟩ := Tree.of_descend_ok h
  exact Nat.lt_add_of_pos_right (Nat.pos_of_ne_zero (Tree.code_pos_of_built hb hleaf))

theorem distFetch_consumesAt (ht : s.HasTrees) : ConsumesAt distFetch s := by
  cases hdt : s.dtPresent with
  | true => exact consumesAt_of_eq (distFetch_tree hdt) rfl (htDecode_consumesAt (q := .dt) (ht.2 hdt))
  | false =>
    cases ho : s.cfg.fixedDistOrder with
    | lsb => exact consumesAt_of_eq (distFetch_lsb hdt ho) rfl (rbLsb_consumesAt (by decide) s)
    | msb => exact consumesAt_of_eq (distFetch_msb hdt ho) rfl (rbMsb_consumesAt (by decide) s)

theorem readHeader_consumesAt (s : State) : ConsumesAt readHeader s := fun bits t h => by
  rw [of_readHeader_ok h]
  exact Nat.lt_add_of_pos_right (by decide)

theorem storedBody_consumesAt (s : State) : ConsumesAt storedBody s :=
  rbAlign_grows.consumesAt_bind fun _ t _ => (rbLsb_consumesAt (by decide) t).bind fun _ =>
    .bind (.update fun _ => rfl) fun _ => .bind (rbLsb_grows 16) fun _ => .bind (.update fun _ => rfl) fun _ =>
    .bind .reads fun _ =>
      .ite (.bind (rbBytes_grows _) fun data => .modifies fun s => .appendAll s data) (.raises _)

theorem readHlit_consumesAt (s : State) : ConsumesAt readHlit s :=
  (rbLsb_consumesAt (by decide) s).bind fun _ => .update fun _ => rfl

theorem readHdist_consumesAt (s : State) : ConsumesAt readHdist s :=
  (rbLsb_consumesAt (by decide) s).bind fun _ => .update fun _ => rfl

theorem readHclen_consumesAt (s : State) : ConsumesAt readHclen s :=
  (rbLsb_consumesAt (by decide) s).bind fun _ => .update fun _ => rfl

/-- At least four lengths of the code-length alphabet are read (44_dynamic.md R193, R194). -/
theorem readClcl_consumesAt (h : 4 ≤ s.hclen) : ConsumesAt readClcl s := by
  obtain ⟨k, hk⟩ := Nat.exists_eq_add_of_le' h
  refine consumesAt_of_eq (readClcl_apply s) rfl ?_
  rw [hk]
  exact (rbLsb_consumesAt (by decide) _).bind fun _ => .bind (.update fun _ => rfl) fun _ => readClclEntries_grows _

/-- A group reads its bits in its meaning. -/
theorem group_consumesAt {p : Phase} {w : ElementWord} (hw : s.Waits p) (h : (p, w) ∈ groups)
    (hm : ConsumesAt (elementMeaning w) s) : ConsumesAt element s :=
  consumesAt_of_eq (element_of_group hw h) rfl (hm.bind fun _ => settle_grows)

/-- A symbol reads its bits in its fetch. -/
theorem symbol_consumesAt {p : Phase} (hw : s.Waits p) (h : ConsumesAt fetchElement s) : ConsumesAt element s :=
  (consumesAt_of_eq (fetch_dispatching hw.inv.portEmpty hw.fsm) rfl h).bind fun w =>
    .bind (elementMeaning_grows w) fun _ => settle_grows

theorem block_consumesAt {p : Phase} (hw : s.Waits p) : ConsumesAt element s := by
  have hready : s.ReadyFor p := hw.phase ▸ hw.busy.ready
  cases p
  case idle => exact absurd hw.phase hw.busy.phase
  case buildClt => exact absurd hw.phase hw.inOrder.running.phaseFetches.1
  case returned => exact absurd hw.phase hw.inOrder.running.phaseFetches.2
  case storedBody =>
    exact group_consumesAt hw (w := ⟨.st, 0⟩) (by decide)
      ((storedBody_consumesAt s).bind fun _ => .update fun _ => rfl)
  case hlit =>
    exact group_consumesAt hw (w := ⟨.dh, 0⟩) (by decide)
      ((readHlit_consumesAt s).bind fun _ => .update fun _ => rfl)
  case hdist =>
    exact group_consumesAt hw (w := ⟨.dh, 5⟩) (by decide)
      ((readHdist_consumesAt s).bind fun _ => .update fun _ => rfl)
  case hclen =>
    exact group_consumesAt hw (w := ⟨.dh, 10⟩) (by decide)
      ((readHclen_consumesAt s).bind fun _ => .update fun _ => rfl)
  case clcl =>
    obtain ⟨-, -, hclen⟩ := hready
    exact group_consumesAt hw (w := ⟨.cll, 0⟩) (by decide)
      ((readClcl_consumesAt hclen).bind fun _ => .update fun _ => rfl)
  case codeLengths =>
    refine symbol_consumesAt hw (consumesAt_of_eq (fetchElement_codeLengths hw.phase) rfl ?_)
    obtain ⟨-, -, hclt, -⟩ := hready
    exact (htDecode_consumesAt (q := .clt) hclt).bind fun _ => .bind (.update fun _ => rfl) fun _ => .returns _
  case expand =>
    refine symbol_consumesAt hw (consumesAt_of_eq (fetchElement_expand hw.phase) rfl ?_)
    exact (htDecode_consumesAt (q := .llt) hready.1).bind fun _ => .bind (.update fun _ => rfl) fun _ => .returns _
  case distance =>
    refine symbol_consumesAt hw (consumesAt_of_eq (fetchElement_distance hw.phase) rfl ?_)
    exact (distFetch_consumesAt hready.1).bind fun _ => .bind (.update fun _ => rfl) fun _ => .returns _

theorem element_consumesAt (hs : s.Inv) (hover : s.over = false) : ConsumesAt element s := by
  cases hf : s.fsm with
  | readingHeader =>
    refine consumesAt_of_eq (element_readingHeader hs.portEmpty hf) rfl ?_
    exact (readHeader_consumesAt s).bind fun bits => .bind (headerMeaning_grows bits) fun _ => settle_grows
  | dispatching => exact block_consumesAt ⟨hs, hf, rfl⟩
  | done | fault => exact absurd hover (by simp [State.over, hf])

/-- A step of a run that is not over ends it in FAULT or leaves fewer bits to read (70_reset_and_hazards.md R322). -/
theorem step_consumes (hs : s.Inv) (hover : s.over = false) (h : step s = .next t) :
    t.fsm = .fault ∨ (s.cur < t.cur ∧ t.cur ≤ 8 * t.inLen) := by
  rw [step_eq_perform hs.portEmpty] at h
  refine (fault_or_ok_of_perform h).imp_right fun hok => ?_
  have hmeets := element_meets (hs.inOrder_of_not_over hover) hs.portEmpty hover
  exact ⟨element_consumesAt hs hover () t hok, (hmeets.ok () t hok).running.cursor⟩

/-! ### A run that is over -/

/-- With nothing at the port a finished run only hands over its result (46_decode_loop.md R266). -/
theorem step_over (hport : s.port = none) (hover : s.over = true) :
    step s = .next { s with result := s.hostResult } := by
  rw [step_eq_perform hport]
  exact perform_of_ok (element_over hport hover)

theorem run_over (hport : s.port = none) (hover : s.over = true) (k : Nat) :
    ∃ r, core.run k s = .next { s with result := r } := by
  induction k generalizing s with
  | zero => exact ⟨s.result, rfl⟩
  | succ k ih =>
    obtain ⟨r, hr⟩ := ih (s := { s with result := s.hostResult }) hport hover
    exact ⟨r, (run_succ_of_step (step_over hport hover)).trans hr⟩

/-- However many steps are taken behind the end of a run, the host receives the same and the cursor stays. -/
theorem run_outcome {j k : Nat} (hs : s.Inv) (hu : core.run j s = .next u) (hv : core.run k s = .next v)
    (huover : u.over = true) (hvover : v.over = true) : v.hostResult = u.hostResult ∧ v.cur = u.cur := by
  wlog hjk : j ≤ k generalizing j k u v
  · obtain ⟨hresult, hcur⟩ := this hv hu hvover huover (Nat.le_of_not_le hjk)
    exact ⟨hresult.symm, hcur.symm⟩
  · obtain ⟨i, rfl⟩ := Nat.exists_eq_add_of_le hjk
    obtain ⟨r, hr⟩ := run_over (StepsTo.inv hs ⟨j, hu⟩).portEmpty huover i
    rw [run_add hu, hr] at hv
    cases hv
    exact ⟨rfl, rfl⟩

/-- A run is over after one step more than there are bits to read (70_reset_and_hazards.md R322). -/
theorem run_ends {n : Nat} (hs : s.Inv) (hn : 8 * s.inLen - s.cur < n) :
    ∃ t, core.run n s = .next t ∧ t.over = true := by
  induction n generalizing s with
  | zero => exact absurd hn (Nat.not_lt_zero _)
  | succ n ih =>
    cases hover : s.over with
    | true =>
      obtain ⟨r, hr⟩ := run_over hs.portEmpty hover (n + 1)
      exact ⟨_, hr, hover⟩
    | false =>
      obtain ⟨t, hstep, ht⟩ := everyStepKeepsTheRunInOrder s hs
      rw [run_succ_of_step hstep]
      obtain hfault | ⟨hlt, hle⟩ := step_consumes hs hover hstep
      · have htover : t.over = true := (State.over_iff t).mpr (.inr hfault)
        obtain ⟨r, hr⟩ := run_over ht.portEmpty htover n
        exact ⟨_, hr, htover⟩
      · have hlen := (step_growsTo hs.portEmpty hstep).inLen
        exact ih ht (by omega)

/-! ### The loop of the whole run -/

/-- A block that is left ends the run or goes on to the next header, and its header was consumed (R262, R265). -/
theorem of_oneBlock_ok_fsm (h : oneBlock s = .ok () t) :
    (t.fsm = .done ∨ t.fsm = .readingHeader) ∧ s.cur + 3 ≤ t.cur ∧ t.inLen = s.inLen := by
  obtain ⟨header, u, hblock, rfl⟩ := of_oneBlock_ok h
  have hgrows := (dispatchBlock_grows _).growsTo_of_ok hblock
  refine ⟨?_, hgrows.cur, hgrows.inLen⟩
  rw [State.leaveBlock_fsm]
  split
  · exact .inl rfl
  · exact .inr rfl

/-- The loop of R270 ends in DONE. -/
theorem done_of_blocksLoop {fuel : Nat} (h : blocksLoop fuel s = .ok () t) : t.fsm = .done := by
  induction fuel generalizing s with
  | zero => cases h
  | succ fuel ih =>
    obtain ⟨_, u, -, hrest⟩ := M.of_bind_ok h
    rw [M.get_bind] at hrest
    split at hrest
    · next hdone =>
      cases hrest
      exact hdone
    · exact ih hrest

/-- The loop of R270 agrees with the steps from any header on. -/
theorem blocksLoop_agrees {fuel : Nat} (hs : s.Inv) (hf : s.fsm = .readingHeader)
    (hfuel : 8 * s.inLen - s.cur < fuel) : AgreesWithSteps (perform (blocksLoop fuel) s) s := by
  induction fuel generalizing s with
  | zero => exact absurd hfuel (Nat.not_lt_zero _)
  | succ fuel ih =>
    have hblock : oneBlock = oneBlock >>= fun _ => modify fun s => s := (bind_pure_unit (x := oneBlock)).symm
    have hagree := oneBlock_agrees hs hf
    rw [hblock] at hagree
    refine hagree.andThen (fun t ht => ?_) fun t ht hsteps => ?_
    · obtain ⟨hfsm | hfsm, -⟩ := of_oneBlock_ok_fsm ht <;> simp [hfsm]
    · obtain ⟨hfsm, hcur, hlen⟩ := of_oneBlock_ok_fsm ht
      have hinv := hsteps.inv hs
      rw [perform_congr (M.get_bind _ t)]
      obtain hdone | hheader := hfsm
      · rw [if_pos hdone]
        exact ⟨t, t, rfl, .refl t, .inr ⟨by simp [hdone], rfl⟩⟩
      · have hcursor := (hinv.running (by simp [hheader])).cursor
        rw [if_neg (by simp [hheader])]
        exact ih hinv hheader (by omega)

/-- Settles O49: the loop agrees with some number of steps, which is over, as the run of the stated length is. -/
theorem steppedRunDecodesLikeTheWholeRun : Obligations.SteppedRunDecodesLikeTheWholeRun := by
  intro bytes s
  have hs := s.launch_inv bytes
  have hfuel : 8 * (s.launch bytes).inLen - (s.launch bytes).cur < 8 * bytes.length + 1 := Nat.lt_succ_self _
  obtain ⟨t, u, hwhole, ⟨k, hk⟩, hsame⟩ := blocksLoop_agrees hs rfl hfuel
  obtain ⟨v, hv, hvover⟩ := run_ends hs hfuel
  refine ⟨t, v, hwhole, hv, ?_⟩
  obtain ⟨htfault, hufault, herr⟩ | ⟨htok, rfl⟩ := hsame
  · obtain ⟨hresult, -⟩ := run_outcome hs hk hv ((State.over_iff u).mpr (.inr hufault)) hvover
    refine ⟨(State.over_iff t).mpr (.inr htfault), hvover, ?_, fun hdone => by simp [htfault] at hdone⟩
    rw [hresult, State.hostResult, State.hostResult, htfault, hufault, herr]
  · have hdone := done_of_blocksLoop ((fault_or_ok_of_perform hwhole).resolve_left htok)
    have huover := (State.over_iff u).mpr (.inl hdone)
    obtain ⟨hresult, hcur⟩ := run_outcome hs hk hv huover hvover
    exact ⟨huover, hvover, hresult, fun _ => hcur⟩

end Sys2Proof.Machine
end

section
/-! PROOF. What a step does not read (46_decode_loop.md R267, 30_encoding.md R104). A piece of pseudocode is `Local`
when it does the same on every input that has the same bits before the cursor it leaves; pieces made of such pieces are
so too, because the cursor never goes back. Where a piece faults nothing is said: on a longer input it may go on. -/

namespace Sys2Proof.Machine

variable {α β : Type}

/-! ### Pieces of pseudocode that read nothing beyond the cursor -/

/-- The same state of a machine with another input. -/
def State.withStream (s : State) (m : Memory) (n : Nat) : State := { s with input := m, inLen := n }

/-- An input of `n` bytes with every bit before the cursor as it is in `IN`. -/
structure State.SameBefore (s : State) (m : Memory) (n : Nat) : Prop where
  cur_le : s.cur ≤ 8 * n
  bit_eq : ∀ c, c < s.cur → m.bit c = s.input.bit c

theorem State.SameBefore.of_growsTo {s t : State} {m : Memory} {n : Nat} (h : t.SameBefore m n) (hg : s.GrowsTo t) :
    s.SameBefore m n where
  cur_le := hg.cur.trans h.cur_le
  bit_eq c hc := (h.bit_eq c (hc.trans_le hg.cur)).trans (by rw [hg.input])

/-- Run from `s`, where the piece ends well, it ends so on every input with the same bits before the cursor left. -/
def LocalAt (m : M α) (s : State) : Prop :=
  ∀ a t, m s = .ok a t → ∀ i n, t.SameBefore i n → m (s.withStream i n) = .ok a (t.withStream i n)

/-- A piece that only grows the state, and reads nothing beyond the cursor it leaves, wherever it is run. -/
structure Local (m : M α) : Prop where
  grows : Grows m
  at_state : ∀ s, LocalAt m s

section
variable {m n : M α} {s t : State}

theorem localAt_of_ok {a : α} (h : m s = .ok a t)
    (hi : ∀ i n, t.SameBefore i n → m (s.withStream i n) = .ok a (t.withStream i n)) : LocalAt m s := by
  intro a' t' h'
  rw [h] at h'
  cases h'
  exact hi

theorem localAt_of_error {e : Trap} (h : m s = .error e t) : LocalAt m s := by
  intro a' t' h'
  rw [h] at h'
  cases h'

/-- What a piece does where it runs as another does, on every input. -/
theorem localAt_of_eq (h : m s = n s) (hi : ∀ i k, m (s.withStream i k) = n (s.withStream i k)) (hn : LocalAt n s) :
    LocalAt m s := fun a t ht i k hsame => by
  rw [hi i k]
  exact hn a t (h.symm.trans ht) i k hsame

theorem LocalAt.bind {f : α → M β} (hm : LocalAt m s) (hf : ∀ a, Local (f a)) : LocalAt (m >>= f) s := by
  intro b u h i n hsame
  obtain ⟨a, t, ha, hb⟩ := M.of_bind_ok h
  have hgrows := (hf a).grows.growsTo_of_ok hb
  rw [M.bind_of_ok f (hm a t ha i n (hsame.of_growsTo hgrows))]
  exact (hf a).at_state t b u hb i n hsame

end

theorem Local.bind {m : M α} {f : α → M β} (hm : Local m) (hf : ∀ a, Local (f a)) : Local (m >>= f) :=
  ⟨.bind hm.grows fun a => (hf a).grows, fun s => (hm.at_state s).bind hf⟩

theorem Local.returns (a : α) : Local (pure a : M α) :=
  ⟨.returns a, fun _ => localAt_of_ok rfl fun _ _ _ => rfl⟩

theorem Local.raises (c : Cause) : Local (raise c : M α) := ⟨.raises c, fun _ => localAt_of_error rfl⟩
theorem Local.refuses (r : Refusal) : Local (refuse r : M α) := ⟨.refuses r, fun _ => localAt_of_error rfl⟩

theorem Local.modifies {g : State → State} (hg : ∀ s : State, s.GrowsTo (g s))
    (h : ∀ s i n, g (s.withStream i n) = (g s).withStream i n) : Local (modify g : M PUnit) :=
  ⟨.modifies hg, fun s => localAt_of_ok rfl fun i n _ => congrArg (EStateM.Result.ok PUnit.unit) (h s i n)⟩

/-- An update that writes no item of the footprint. -/
theorem Local.update {g : State → State} (hg : ∀ s, (g s).footprint = s.footprint)
    (h : ∀ s i n, g (s.withStream i n) = (g s).withStream i n) : Local (modify g : M PUnit) :=
  .modifies (fun s => .of_footprint (hg s)) h

/-- Reading the state, where what is read is not the input. -/
theorem Local.reads {f : State → M β} (h : ∀ s i n, f (s.withStream i n) = f s) (hf : ∀ s, Local (f s)) :
    Local ((get : M State) >>= f) where
  grows := .bind .reads fun s => (hf s).grows
  at_state s b t ht i n hsame := by
    rw [M.get_bind, h s i n]
    exact (hf s).at_state s b t ht i n hsame

theorem Local.ite {p : Prop} [Decidable p] {m n : M α} (hm : Local m) (hn : Local n) :
    Local (if p then m else n) := by
  split
  · exact hm
  · exact hn

/-! ### The BitReader and HT -/

theorem rbBit_local : Local rbBit where
  grows := rbBit_grows
  at_state s := by
    by_cases h : s.hasBits 1
    · refine localAt_of_ok (rbBit_ok h) fun i n hsame => ?_
      have hbit : i.bit s.cur = s.input.bit s.cur := hsame.bit_eq s.cur (Nat.lt_succ_self _)
      rw [← hbit]
      exact rbBit_ok (s := s.withStream i n) hsame.cur_le
    · exact localAt_of_error (rbBit_short h)

theorem rbLsbLoop_local (n i v : Nat) : Local (rbLsbLoop n i v) := by
  induction n generalizing i v with
  | zero => exact .returns v
  | succ n ih => exact .bind rbBit_local fun _ => ih _ _

theorem rbLsb_local (n : Nat) : Local (rbLsb n) := rbLsbLoop_local n 0 0

theorem rbMsbLoop_local (n v : Nat) : Local (rbMsbLoop n v) := by
  induction n generalizing v with
  | zero => exact .returns v
  | succ n ih => exact .bind rbBit_local fun _ => ih _

theorem rbMsb_local (n : Nat) : Local (rbMsb n) := rbMsbLoop_local n 0

/-- A byte is its eight bits (20_memory.md R64). -/
theorem Memory.read_eq_of_bits {m m' : Memory} {k : Nat} (h : ∀ c, 8 * k ≤ c → c < 8 * (k + 1) → m.bit c = m'.bit c) :
    m.read k = m'.read k := by
  have hfield : m.lsbField (8 * k) 8 = m'.lsbField (8 * k) 8 := by
    unfold Memory.lsbField
    refine congrArg List.sum (List.map_congr_left fun i hi => ?_)
    rw [List.mem_range] at hi
    rw [h (8 * k + i) (by omega) (by omega)]
  rw [Memory.lsbField_in_byte _ _ le_rfl, Memory.lsbField_in_byte _ _ le_rfl] at hfield
  have hm := (m.read k).isLt
  have hm' := (m'.read k).isLt
  exact BitVec.eq_of_toNat_eq (by omega)

/-- The bytes before the cursor are those of `IN`. -/
theorem State.SameBefore.bytes_eq {s : State} {m : Memory} {n k len : Nat} (h : s.SameBefore m n)
    (hlen : 8 * (k + len) ≤ s.cur) : m.bytes k len = s.input.bytes k len := by
  refine List.map_congr_left fun i hi => Memory.read_eq_of_bits fun c _ hc => h.bit_eq c ?_
  rw [List.mem_range] at hi
  omega

theorem rbBytes_local (len : Nat) : Local (rbBytes len) where
  grows := rbBytes_grows len
  at_state s := by
    by_cases ha : s.cur % 8 = 0
    · by_cases h : s.cur / 8 + len ≤ s.inLen
      · refine localAt_of_ok (rbBytes_ok ha h) fun i n hsame => ?_
        have hcur : s.cur + 8 * len ≤ 8 * n := hsame.cur_le
        have hbytes : i.bytes (s.cur / 8) len = s.input.bytes (s.cur / 8) len :=
          hsame.bytes_eq (show 8 * (s.cur / 8 + len) ≤ s.cur + 8 * len by omega)
        rw [← hbytes]
        exact rbBytes_ok (s := s.withStream i n) ha (show s.cur / 8 + len ≤ n by omega)
      · exact localAt_of_error (rbBytes_short ha (Nat.lt_of_not_le h))
    · exact localAt_of_error (rbBytes_unaligned ha)

theorem rbAlign_local : Local rbAlign :=
  ⟨rbAlign_grows, fun s => localAt_of_ok (rbAlign_ok s) fun i n _ => rbAlign_ok (s.withStream i n)⟩

/-- Whichever table the tree is built from, it is not the input. -/
theorem htBuild_local (q : TreeSel) : Local (htBuild q) where
  grows := htBuild_grows q
  at_state s := by
    cases h : overSubscribed (countLengths (s.lengthsOf q)) with
    | true => exact localAt_of_error (htBuild_over h)
    | false => cases q <;> exact localAt_of_ok (htBuild_ok h) fun _ _ _ => htBuild_ok h

theorem descend_local (tree : Tree) : Local tree.descend := by
  induction tree with
  | none => exact .refuses _
  | node x y sym ihx ihy =>
    refine .ite ?_ (.bind rbBit_local fun b => .ite (.ite (.raises _) ihy) (.ite (.raises _) ihx))
    cases sym with
    | none => exact .raises _
    | some v => exact .returns v

theorem htDecode_local (q : TreeSel) : Local (htDecode q) :=
  .reads (fun _ _ _ => by cases q <;> rfl) fun s => descend_local (s.tree q)

/-! ### The expander -/

/-- A field, with its number of bits noted before and what follows from its value after. -/
theorem extraBits_local {k : Nat} {g : State → State} {f : Nat → State → State}
    (hg : ∀ s, (g s).footprint = s.footprint) (hgi : ∀ s i n, g (s.withStream i n) = (g s).withStream i n)
    (hf : ∀ v s, (f v s).footprint = s.footprint)
    (hfi : ∀ v s i n, f v (s.withStream i n) = (f v s).withStream i n) :
    Local ((modify g : M PUnit) >>= fun _ => rbLsb k >>= fun v => (modify (f v) : M PUnit)) :=
  .bind (.update hg hgi) fun _ => .bind (rbLsb_local k) fun v => .update (hf v) (hfi v)

theorem lengthSymbol_local (sym : Nat) : Local (lengthSymbol sym) :=
  .ite (.update (fun _ => rfl) fun _ _ _ => rfl) <| .ite (.update (fun _ => rfl) fun _ _ _ => rfl) <|
    extraBits_local (fun _ => rfl) (fun _ _ _ => rfl) (fun _ _ => rfl) fun _ _ _ _ => rfl

theorem literalLengthMeaning_local (sym : Nat) : Local (literalLengthMeaning sym) :=
  .ite (.modifies (fun s => .append s _) fun _ _ _ => rfl) <| .ite (.update (fun _ => rfl) fun _ _ _ => rfl) <|
    .ite (.bind (lengthSymbol_local sym) fun _ => .update (fun _ => rfl) fun _ _ _ => rfl) (.raises _)

theorem distFetch_local : Local distFetch := by
  refine .reads (fun _ _ _ => rfl) fun s => .ite (htDecode_local .dt) ?_
  cases s.cfg.fixedDistOrder with
  | lsb => exact rbLsb_local 5
  | msb => exact rbMsb_local 5

theorem distanceCode_local (code : Nat) : Local (distanceCode code) :=
  .ite (.raises _) <| .ite (.update (fun _ => rfl) fun _ _ _ => rfl) <|
    extraBits_local (fun _ => rfl) (fun _ _ _ => rfl) (fun _ _ => rfl) fun _ _ _ _ => rfl

theorem copyByte_local : Local copyByte where
  grows := copyByte_grows
  at_state s := by
    by_cases h : 1 ≤ s.distance ∧ s.distance ≤ s.outLen
    · exact localAt_of_ok (copyByte_ok h.1 h.2) fun i n _ => copyByte_ok (s := s.withStream i n) h.1 h.2
    · exact localAt_of_error (copyByte_outside (by omega))

theorem copyBytes_local (n : Nat) : Local (copyBytes n) := by
  induction n with
  | zero => exact .returns _
  | succ n ih => exact .bind copyByte_local fun _ => ih

theorem thenCopy_local {m : M Unit} (h : Local m) : Local (thenCopy m) :=
  .bind h fun _ => .bind (.reads (fun _ _ _ => rfl) fun _ => .ite (.returns _) (.raises _)) fun _ =>
    .bind (.reads (fun _ _ _ => rfl) fun s => copyBytes_local s.length) fun _ =>
    .update (fun _ => rfl) fun _ _ _ => rfl

/-! ### The block decoders -/

theorem State.appendAll_withStream (s : State) (data : List Byte) (i : Memory) (n : Nat) :
    (s.withStream i n).appendAll data = (s.appendAll data).withStream i n := by
  induction data generalizing s with
  | nil => rfl
  | cons b data ih => exact ih (s.append b)

theorem storedBody_local : Local storedBody :=
  .bind rbAlign_local fun _ =>
    .bind (rbLsb_local 16) fun _ => .bind (.update (fun _ => rfl) fun _ _ _ => rfl) fun _ =>
    .bind (rbLsb_local 16) fun _ => .bind (.update (fun _ => rfl) fun _ _ _ => rfl) fun _ =>
    .reads (fun _ _ _ => rfl) fun _ => .ite
      (.bind (rbBytes_local _) fun data => .modifies (fun s => .appendAll s data) fun s => s.appendAll_withStream data)
      (.raises _)

theorem fixedSetup_local : Local fixedSetup :=
  .bind (.update (fun _ => rfl) fun _ _ _ => rfl) fun _ => .bind (htBuild_local .llt) fun _ =>
    .update (fun _ => rfl) fun _ _ _ => rfl

theorem headerMeaning_local (bits : Nat) : Local (headerMeaning bits) := by
  unfold headerMeaning
  split
  · exact .update (fun _ => rfl) fun _ _ _ => rfl
  · exact .bind (.update (fun _ => rfl) fun _ _ _ => rfl) fun _ => .bind fixedSetup_local fun _ =>
      .update (fun _ => rfl) fun _ _ _ => rfl
  · exact .update (fun _ => rfl) fun _ _ _ => rfl
  · exact .bind (.update (fun _ => rfl) fun _ _ _ => rfl) fun _ => .raises _
  · exact .refuses _

/-- A count of the dynamic header, with the phase it leads to. -/
theorem readThenWait_local {k : Nat} {g : Nat → State → State} {p : Phase}
    (hg : ∀ v s, (g v s).footprint = s.footprint)
    (hgi : ∀ v s i n, g v (s.withStream i n) = (g v s).withStream i n) :
    Local ((rbLsb k >>= fun v => modify (g v)) >>= fun _ => modify (State.inPhase · p) : M PUnit) :=
  .bind (.bind (rbLsb_local k) fun v => .update (hg v) (hgi v)) fun _ => .update (fun _ => rfl) fun _ _ _ => rfl

theorem fieldMeaning_local (bits : Nat) : Local (fieldMeaning bits) := by
  unfold fieldMeaning
  split
  · exact readThenWait_local (fun _ _ => rfl) fun _ _ _ _ => rfl
  · exact readThenWait_local (fun _ _ => rfl) fun _ _ _ _ => rfl
  · exact readThenWait_local (fun _ _ => rfl) fun _ _ _ _ => rfl
  · exact .refuses _

theorem readClclEntries_local (places : List Nat) : Local (readClclEntries places) := by
  induction places with
  | nil => exact .returns _
  | cons place places ih =>
    exact .bind (rbLsb_local 3) fun _ => .bind (.update (fun _ => rfl) fun _ _ _ => rfl) fun _ => ih

theorem readClcl_local : Local readClcl :=
  .bind (.update (fun _ => rfl) fun _ _ _ => rfl) fun _ =>
    .reads (fun _ _ _ => rfl) fun _ => readClclEntries_local _

theorem State.emitLength_withStream (s : State) (v : Nat) (i : Memory) (n : Nat) :
    (s.withStream i n).emitLength v = (s.emitLength v).withStream i n := by
  cases h : s.seqTable <;> simp [State.emitLength, State.withStream, h]

theorem State.emitLengths_withStream (s : State) (v k : Nat) (i : Memory) (n : Nat) :
    (s.withStream i n).emitLengths v k = (s.emitLengths v k).withStream i n := by
  induction k generalizing s with
  | zero => rfl
  | succ k ih => rw [State.emitLengths, State.emitLength_withStream, ih, State.emitLengths]

theorem emitRun_local (v : Nat) : Local (emitRun v) where
  grows := emitRun_grows v
  at_state s := by
    by_cases h : s.cli + s.rep ≤ s.seqLen s.seqTable
    · refine localAt_of_ok (emitRun_ok h) fun i n _ => ?_
      rw [← State.emitLengths_withStream]
      exact emitRun_ok (s := s.withStream i n) h
    · exact localAt_of_error (emitRun_over (Nat.lt_of_not_le h))

theorem readRun_local (k v : Nat) (repOf : Nat → Nat) : Local (readRun k repOf v) :=
  .bind (rbLsb_local k) fun _ => .bind (.update (fun _ => rfl) fun _ _ _ => rfl) fun _ => emitRun_local v

theorem codeLengthSymbol_local (sym : Nat) : Local (codeLengthSymbol sym) :=
  .ite (.modifies (fun s => .emitLengths s sym 1) fun s => s.emitLength_withStream sym) <|
    .ite (.reads (fun _ _ _ => rfl) fun _ => .ite (.raises _) (readRun_local 2 _ rep16Of)) <|
    .ite (readRun_local 3 0 zero17Of) (readRun_local 7 0 zero18Of)

theorem endSequence_local (q : SeqTable) : Local (endSequence q) := by
  cases q with
  | ll => exact .update (fun _ => rfl) fun _ _ _ => rfl
  | d =>
    exact .bind (.bind (htBuild_local .llt) fun _ => .bind (htBuild_local .dt) fun _ =>
      .update (fun _ => rfl) fun _ _ _ => rfl) fun _ => .update (fun _ => rfl) fun _ _ _ => rfl

/-! ### Fetch, run, settle -/

theorem readHeader_local : Local readHeader :=
  .bind rbBit_local fun _ => .bind (rbLsb_local 2) fun _ => .returns _

/-- A code read from the stream goes to its register. -/
theorem readCode_local {m : M Nat} (hm : Local m) (f : Format) {g : Nat → State → State}
    (hg : ∀ v s, (g v s).footprint = s.footprint)
    (hgi : ∀ v s i n, g v (s.withStream i n) = (g v s).withStream i n) :
    Local (m >>= fun v => (modify (g v) : M PUnit) >>= fun _ => pure (⟨f, v⟩ : ElementWord)) :=
  .bind hm fun v => .bind (.update (hg v) (hgi v)) fun _ => .returns _

theorem fetchElement_local : Local fetchElement := by
  refine .reads (fun _ _ _ => rfl) fun s => ?_
  cases s.phase with
  | codeLengths => exact readCode_local (htDecode_local .clt) .cl (fun _ _ => rfl) fun _ _ _ _ => rfl
  | expand => exact readCode_local (htDecode_local .llt) .ll (fun _ _ => rfl) fun _ _ _ _ => rfl
  | distance => exact readCode_local distFetch_local .d (fun _ _ => rfl) fun _ _ _ _ => rfl
  | idle | buildClt | returned => exact .refuses _
  | storedBody | hlit | hdist | hclen | clcl => exact .returns _

theorem fetch_localAt {s : State} (hport : s.port = none) : LocalAt fetch s := by
  cases hf : s.fsm with
  | readingHeader =>
    exact localAt_of_eq (fetch_readingHeader hport hf) (fun _ _ => fetch_readingHeader hport hf)
      ((readHeader_local.at_state s).bind fun _ => .returns _)
  | dispatching =>
    exact localAt_of_eq (fetch_dispatching hport hf) (fun _ _ => fetch_dispatching hport hf)
      (fetchElement_local.at_state s)
  | done | fault =>
    have ho : s.over = true := (State.over_iff s).mpr (by simp [hf])
    exact localAt_of_ok (fetch_over hport ho) fun _ _ _ => fetch_over hport ho

theorem elementMeaning_local (w : ElementWord) : Local (elementMeaning w) := by
  obtain ⟨format, k⟩ := w
  cases format with
  | bh => exact headerMeaning_local k
  | st => exact .bind storedBody_local fun _ => .update (fun _ => rfl) fun _ _ _ => rfl
  | dh => exact fieldMeaning_local k
  | cll => exact .bind readClcl_local fun _ => .update (fun _ => rfl) fun _ _ _ => rfl
  | cl => exact .ite (codeLengthSymbol_local k) (.refuses _)
  | ll => exact literalLengthMeaning_local k
  | d => exact thenCopy_local (distanceCode_local k)
  | op => exact .update (fun _ => rfl) fun _ _ _ => rfl

theorem settle_local : Local settle where
  grows := settle_grows
  at_state s := by
    cases ho : s.over with
    | true => exact localAt_of_ok (settle_over ho) fun _ _ _ => settle_over ho
    | false =>
      cases hp : s.phase
      case buildClt =>
        exact localAt_of_eq (settle_buildClt ho hp) (fun _ _ => settle_buildClt ho hp)
          (((htBuild_local .clt).at_state s).bind fun _ => .update (fun _ => rfl) fun _ _ _ => rfl)
      case codeLengths =>
        exact localAt_of_eq (settle_codeLengths ho hp) (fun _ _ => settle_codeLengths ho hp)
          ((Local.ite (endSequence_local _) (.returns _)).at_state s)
      case returned => exact localAt_of_ok (settle_returned ho hp) fun _ _ _ => settle_returned ho hp
      all_goals
        obtain ⟨h1, h2, h3⟩ : s.phase ≠ .buildClt ∧ s.phase ≠ .codeLengths ∧ s.phase ≠ .returned := by simp [hp]
        exact localAt_of_ok (settle_waiting h1 h2 h3) fun _ _ _ => settle_waiting h1 h2 h3

theorem element_localAt {s : State} (hport : s.port = none) : LocalAt element s :=
  (fetch_localAt hport).bind fun w => .bind (elementMeaning_local w) fun _ => settle_local

/-- Settles O56: a step that does not fault is a piece of pseudocode that ends well, and that piece is `Local`. -/
theorem stepReadsNothingBeyondItsCursor : Obligations.StepReadsNothingBeyondItsCursor := by
  intro s t m n hport h hf _ hn hbits
  have hgrows := step_growsTo hport h
  rw [step_eq_perform hport] at h
  have hsame : t.SameBefore m n := ⟨hn, fun c hc => by rw [hbits c hc, hgrows.input]⟩
  have hother : element (s.withStream m n) = .ok () (t.withStream m n) :=
    element_localAt hport () t (ok_of_perform_next h hf) m n hsame
  have hport' : (s.withStream m n).port = none := hport
  exact (step_eq_perform hport').trans (perform_of_ok hother)

end Sys2Proof.Machine
end

section
/-! PROOF. Fetch by fetch and element by element: what the decode loop fetches at each of its places (46_decode_loop.md
R262, R265), what a header and the end of a block do, and how a run that is over is left (R261, R266). -/

namespace Sys2Proof.Machine

variable {s t : State} {w : Nat}

/-! ### The host: RESULT, the port, and the end of a run -/

theorem exec_result (s : State) : exec .result s = .next { s with result := s.hostResult } := rfl

theorem State.hostResult_done (h : s.fsm = .done) : s.hostResult = some (.ok (s.out.bytes 0 s.outLen)) := by
  rw [State.hostResult, h, State.outBytes]

theorem State.hostResult_fault (h : s.fsm = .fault) : s.hostResult = some (.err s.err) := by
  rw [State.hostResult, h]

theorem State.hostResult_running (h : s.over = false) : s.hostResult = none := by
  cases hf : s.fsm <;> simp [State.hostResult, State.over, hf] at h ⊢

/-- Settles O3: what the host receives, by `FSM`. -/
theorem resultHandsOverTheOutcome : Obligations.ResultHandsOverTheOutcome := by
  intro s
  rw [exec_result]
  refine ⟨fun h => ?_, fun h => ?_, fun hd hf => ?_⟩
  · rw [State.hostResult_done h]
  · rw [State.hostResult_fault h]
  · rw [State.hostResult_running (by simp [State.over, hd, hf])]

/-- An operation at the port that is taken (log 8). -/
theorem fetch_port (hport : s.port = some w) (h : s.over = false ∨ isHostTransaction w = true) :
    fetch s = .ok ⟨.op, w⟩ { s with port := none } := by
  have htaken : (s.over && !isHostTransaction w) = false := by
    obtain h | h := h <;> simp [h]
  simp only [fetch, M.get_bind, hport, htaken, Bool.false_eq_true, if_false]
  rfl

/-- An operation at the port that a finished run does not take (log 8). -/
theorem step_port_over (hport : s.port = some w) (hover : s.over = true) (h : isHostTransaction w = false) :
    step s = .refused .runIsOver := by
  have hrefused : fetch s = .error (.refuse .runIsOver) s := by
    simp only [fetch, M.get_bind, hport, hover, h, Bool.not_false, Bool.and_self, if_true, M.refuse_apply]
  rw [step_of_fetch_error hrefused]
  rfl

theorem isHostTransaction_iff : isHostTransaction w = true ↔ w % 256 = 10 ∨ w % 256 = 12 := by
  simp [isHostTransaction]

/-- Settles O7: the fetch by what stands at the port. -/
theorem portOperationIsFetchedFirst : Obligations.PortOperationIsFetchedFirst := by
  intro s w hport
  refine ⟨fun h => fetch_port hport ?_, fun hover h10 h12 => step_port_over hport ((State.over_iff s).mpr hover) ?_⟩
  · obtain h | h | h := h
    · exact .inl (by simp [State.over, h])
    · exact .inl (by simp [State.over, h])
    · exact .inr (isHostTransaction_iff.mpr h)
  · exact Bool.eq_false_iff.mpr fun h => (isHostTransaction_iff.mp h).elim h10 h12

/-- A launch at the port is a step to the launched run, whatever run it ends (R260). -/
theorem step_launch (hport : s.port = some w) (h : w % 256 = 10) :
    decode ⟨.op, w⟩ = .ok (.launch (natToBytes (w / 256))) ∧ step s = .next (s.launch (natToBytes (w / 256))) := by
  have hdecode : decode ⟨.op, w⟩ = .ok (.launch (natToBytes (w / 256))) := by simp only [decode, decodeOperation, h]
  refine ⟨hdecode, ?_⟩
  rw [step_of_fetch (fetch_port hport (.inr (isHostTransaction_iff.mpr (.inl h)))), runWord, hdecode]
  exact perform_of_ok (settle_waiting (s := s.launch (natToBytes (w / 256))) nofun nofun nofun)

/-- RESULT at the port of a finished run delivers the result and changes nothing else (R266). -/
theorem step_result (hport : s.port = some w) (hover : s.over = true) (h : w % 256 = 12) (hstep : step s = .next t) :
    t = { s with port := none, result := s.hostResult } := by
  have hdecode : decode ⟨.op, w⟩ = decodeNullary .result (w / 256) := by simp only [decode, decodeOperation, h]
  rw [step_of_fetch (fetch_port hport (.inr (isHostTransaction_iff.mpr (.inr h)))), runWord, hdecode,
    decodeNullary] at hstep
  split_ifs at hstep
  · have hsettled : runInstr .result { s with port := none } = .next { s with port := none, result := s.hostResult } :=
      perform_of_ok (settle_over (s := { s with port := none, result := s.hostResult }) hover)
    cases hsettled.symm.trans hstep
    rfl
  · cases hstep

/-- Settles O4: with an empty port the result is delivered; the port of a finished run takes RESULT and LAUNCH only. -/
theorem onlyLaunchLeavesAFinishedRun : Obligations.OnlyLaunchLeavesAFinishedRun := by
  intro s hs
  have hover := (State.over_iff s).mpr hs
  refine ⟨fun hport => step_over hport hover, fun t ht => ?_⟩
  cases hport : s.port with
  | none =>
    cases (step_over hport hover).symm.trans ht
    exact .inl ⟨rfl, rfl, rfl, rfl, rfl⟩
  | some w =>
    cases htaken : isHostTransaction w with
    | false => cases (step_port_over hport hover htaken).symm.trans ht
    | true =>
      obtain h | h := isHostTransaction_iff.mp htaken
      · obtain ⟨hdecode, hstep⟩ := step_launch hport h
        cases hstep.symm.trans ht
        exact .inr ⟨w, _, rfl, hdecode, rfl⟩
      · rw [step_result hport hover h ht]
        exact .inl ⟨rfl, rfl, rfl, rfl, rfl⟩

/-- Settles O5: what is fetched is decoded and run. -/
theorem stepRunsTheFetchedInstruction : Obligations.StepRunsTheFetchedInstruction := by
  intro s t w i hfetch hdecode
  rw [step_of_fetch hfetch, runWord, hdecode]
  rfl

/-! ### What is fetched -/

/-- `BFINAL` and the two bits of `BTYPE` as the header number (R262, 30_encoding.md R91). -/
theorem readHeader_ok (h : s.hasBits 3) : readHeader s =
    .ok (s.input.bit s.cur + 2 * (s.input.bit (s.cur + 1) + 2 * s.input.bit (s.cur + 2)))
      { s with cur := s.cur + 3 } := by
  have hbit : s.hasBits 1 := State.hasBits_left (b := 2) h
  have htype : ({ s with cur := s.cur + 1 } : State).hasBits 2 := h
  rw [readHeader, M.bind_of_ok _ (rbBit_ok hbit), M.bind_of_ok _ (rbLsb_ok htype), M.pure_apply]
  simp only [Memory.lsbField_succ, Memory.lsbField_zero, Nat.mul_zero, Nat.add_zero]

theorem readHeader_short (h : ¬ s.hasBits 3) : ∃ t, readHeader s = .error (.raise .streamTruncated) t := by
  by_cases hbit : s.hasBits 1
  · obtain ⟨t, ht⟩ := rbLsb_short_of_pos (s := { s with cur := s.cur + 1 }) (n := 2) (by decide) h
    exact ⟨t, (M.bind_of_ok _ (rbBit_ok hbit)).trans (M.bind_of_error _ ht)⟩
  · exact ⟨s, M.bind_of_error _ (rbBit_short hbit)⟩

/-- A fetch that raises is a step that raises. -/
theorem step_raises_of_fetch {c : Cause} (h : fetch s = .error (.raise c) t) : Raises (step s) c :=
  ⟨t.takeFault c, (step_of_fetch_error h).trans (trapped_raise c t), rfl, rfl⟩

theorem fetch_header (hport : s.port = none) (hf : s.fsm = .readingHeader) (h : s.hasBits 3) : fetch s =
    .ok ⟨.bh, s.input.bit s.cur + 2 * (s.input.bit (s.cur + 1) + 2 * s.input.bit (s.cur + 2))⟩
      { s with cur := s.cur + 3 } := by
  rw [fetch_readingHeader hport hf, M.bind_of_ok _ (readHeader_ok h), M.pure_apply]

/-- A code of `CLT` ahead is fetched as the word of its symbol (44_dynamic.md R196). -/
theorem fetch_codeLengths {l sym : Nat} (hport : s.port = none) (hf : s.fsm = .dispatching)
    (hp : s.phase = .codeLengths) (h : s.codeAhead s.clt l sym) :
    fetch s = .ok ⟨.cl, sym⟩ { s with cur := s.cur + l, clsym := sym } := by
  have hsym : htDecode .clt s = .ok sym { s with cur := s.cur + l } := Tree.descend_code h
  rw [fetch_dispatching hport hf, fetchElement_codeLengths hp, M.bind_of_ok _ hsym]
  rfl

/-- The raw distance field, by the order FIXED_DIST_ORDER (43_fixed.md R182). -/
theorem distFetch_raw_ok (hdt : s.dtPresent = false) (h : s.hasBits 5) : distFetch s =
    .ok (if s.cfg.fixedDistOrder = .lsb then s.input.lsbField s.cur 5 else s.input.msbField s.cur 5)
      { s with cur := s.cur + 5 } := by
  cases ho : s.cfg.fixedDistOrder with
  | lsb => exact (distFetch_lsb hdt ho).trans (rbLsb_ok h)
  | msb => exact (distFetch_msb hdt ho).trans (rbMsb_ok h)

theorem distFetch_raw_short (hdt : s.dtPresent = false) (h : ¬ s.hasBits 5) :
    ∃ t, distFetch s = .error (.raise .streamTruncated) t := by
  cases ho : s.cfg.fixedDistOrder with
  | lsb =>
    rw [distFetch_lsb hdt ho]
    exact rbLsb_short_of_pos (by decide) h
  | msb =>
    rw [distFetch_msb hdt ho]
    exact rbMsb_short_of_pos (by decide) h

/-- A symbol whose code is not there raises what HT.DECODE or DIST.FETCH raises. -/
theorem step_raises_of_code {m : M Nat} {f : Nat → M ElementWord} {c : Cause} (hport : s.port = none)
    (hf : s.fsm = .dispatching) (he : fetchElement s = (m >>= f) s) (h : m s = .error (.raise c) t) :
    Raises (step s) c :=
  step_raises_of_fetch ((fetch_dispatching hport hf).trans (he.trans (M.bind_of_error f h)))

/-- A code that HT.DECODE run on its own raises at. -/
theorem step_raises_of_htDecode {q : TreeSel} {f : Nat → M ElementWord} {c : Cause} (hport : s.port = none)
    (hf : s.fsm = .dispatching) (he : fetchElement s = (htDecode q >>= f) s)
    (h : Raises (exec (.htDecode q) s) c) : Raises (step s) c := by
  obtain ⟨u, hu⟩ := (exec_htDecode_raises (by simp [hf])).mp h
  exact step_raises_of_code hport hf he hu

/-- In a dynamic block the distance code is fetched through `DT` (45_lz77.md R228). -/
theorem fetchElement_distance_tree (hp : s.phase = .distance) (hdt : s.dtPresent = true) :
    fetchElement s = (do
      let code ← htDecode .dt
      modify fun s => { s with dcode := code }
      return ⟨.d, code⟩ : M ElementWord) s :=
  (fetchElement_distance hp).trans (M.bind_congr_left _ (distFetch_tree hdt))

/-- Settles O6: one lemma for each place of the loop, and for each way its fetch can fail. -/
theorem fetchFollowsTheDecodeLoop : Obligations.FetchFollowsTheDecodeLoop := by
  intro s hport
  refine ⟨fetch_header hport, fun hf h => ?_, fun hf => ?_, fun h => fetch_over hport ((State.over_iff s).mpr h)⟩
  · obtain ⟨t, ht⟩ := readHeader_short h
    exact step_raises_of_fetch ((fetch_readingHeader hport hf).trans (M.bind_of_error _ ht))
  · have hgroup {w : ElementWord} (hmem : (s.phase, w) ∈ groups) : fetch s = .ok w s :=
      (fetch_dispatching hport hf).trans (fetchElement_group hmem)
    refine ⟨fun hp => hgroup (by rw [hp]; decide), fun hp => hgroup (by rw [hp]; decide),
      fun hp => hgroup (by rw [hp]; decide), fun hp => hgroup (by rw [hp]; decide),
      fun hp => hgroup (by rw [hp]; decide),
      fun hp _ _ => fetch_codeLengths hport hf hp, fun hp _ _ => fetch_expand hport hf hp, fun hp hdt _ _ h => ?_,
      fun c => ⟨fun hp => ?_, fun hp => ?_, fun hp hdt => ?_⟩, fun hp hdt h => ?_, fun hp hdt h => ?_⟩
    · exact fetch_distance hport hf hp ((distFetch_tree hdt).trans (Tree.descend_code h))
    · exact step_raises_of_htDecode hport hf (fetchElement_codeLengths hp)
    · exact step_raises_of_htDecode hport hf (fetchElement_expand hp)
    · exact step_raises_of_htDecode hport hf (fetchElement_distance_tree hp hdt)
    · obtain ⟨t, ht⟩ := distFetch_raw_short hdt h
      exact step_raises_of_code hport hf (fetchElement_distance hp) ht
    · exact fetch_distance hport hf hp (distFetch_raw_ok hdt h)

/-! ### Headers and the end of a block -/

/-- Settles O21: both headers write their registers in one update. -/
theorem storedAndDynamicHeadersEnterTheirBlock : Obligations.StoredAndDynamicHeadersEnterTheirBlock :=
  fun _ _ => ⟨rfl, rfl⟩

/-- Settles O23: the row raises before anything is read, and three bits with `BTYPE` 3 are its word. -/
theorem reservedBlockTypeFaults : Obligations.ReservedBlockTypeFaults := by
  refine ⟨fun f s => ⟨_, rfl, rfl, rfl⟩, fun s hport hf h h1 h2 => ?_⟩
  rw [step_of_fetch (fetch_header hport hf h), h1, h2, runWord_header]
  have htype : headerType (s.input.bit s.cur + 2 * (1 + 2 * 1)) = 3 := by
    have := s.input.bit_lt s.cur
    unfold headerType
    omega
  rw [headerMeaning, htype]
  exact ⟨_, rfl, rfl, rfl⟩

/-- Settles O25: the statements that follow a block decoder which has returned. -/
theorem blockEndGoesByBfinal : Obligations.BlockEndGoesByBfinal :=
  fun _ hover hp => perform_of_ok (settle_returned hover hp)

/-- Settles O44: the header, the stored body behind it, and the end of the block. -/
theorem blkHdrRunsAStoredBlock : Obligations.BlkHdrRunsAStoredBlock := by
  intro s f k len nlen hk hfinal h1 h2 hlen hnlen hx hfits
  have hheader := readHeader_ok (s := { s with fsm := .readingHeader })
    (show s.cur + 3 ≤ 8 * s.inLen by omega)
  simp only [hfinal, h1, h2] at hheader
  obtain ⟨out, hbody, hcopied, hkept⟩ :=
    storedBody_ok (s := State.enterBlock { s with cur := s.cur + 3 } f 0) hk hlen hnlen hx hfits
  have hblock : oneBlock s = .ok () (State.leaveBlock
      { State.enterBlock { s with cur := s.cur + 3 } f 0 with
        cur := 8 * (k + 4 + len), len := BitVec.ofNat 16 len, nlen := BitVec.ofNat 16 nlen,
        out := out, outLen := s.outLen + len }) := by
    rw [oneBlock, M.modify_bind, M.bind_of_ok _ hheader, M.modify_bind]
    cases f <;> exact M.bind_of_ok _ hbody
  exact ⟨_, perform_of_ok hblock, rfl, hcopied, hkept⟩

end Sys2Proof.Machine
end

section
/-! PROOF. The transitions of `FSM` (46_decode_loop.md R261, R265, R268). A header leads into its block; inside a block
an element keeps what belongs to the run, and only the statements that follow the last one leave it. -/

namespace Sys2Proof.Machine

variable {α : Type} {s t : State}

/-! ### What an element keeps -/

theorem readClcl_keeps : Keeps State.ofRun readClcl :=
  .bind (.update fun _ => rfl) fun _ => .bind .reads fun _ => readClclEntries_keeps _

theorem Keeps.ofRun_of_besideExpander {m : M α} (h : Keeps State.besideExpander m) : Keeps State.ofRun m :=
  fun s a t ht => show t.besideExpander.ofRun = s.besideExpander.ofRun from congrArg _ (h s a t ht)

theorem codeLengthSymbol_keeps (sym : Nat) : Keeps State.ofRun (codeLengthSymbol sym) := fun s _ t h => by
  rw [(emitted_of_codeLengthSymbol h).frame]
  rfl

theorem literalLengthMeaning_keeps (sym : Nat) : Keeps State.ofRun (literalLengthMeaning sym) :=
  .ite (.update fun _ => rfl) <| .ite (.update fun _ => rfl) <|
    .ite (.bind (lengthSymbol_keeps sym).ofRun_of_besideExpander fun _ => .update fun _ => rfl) (.raises _)

theorem thenCopy_distanceCode_keeps (code : Nat) : Keeps State.ofRun (thenCopy (distanceCode code)) := by
  have hmatch : thenCopy (distanceCode code) = finishMatch code >>= fun _ => modify (State.inPhase · .expand) := by
    simp only [thenCopy, finishMatch, bind_assoc]
    rfl
  rw [hmatch]
  exact .bind (finishMatch_keeps code).ofRun_of_besideExpander fun _ => .update fun _ => rfl

theorem buildBlockTrees_keeps : Keeps State.ofRun buildBlockTrees :=
  .bind (htBuild_keeps .llt) fun _ => .bind (htBuild_keeps .dt) fun _ => .update fun _ => rfl

/-- Inside a block an element keeps what belongs to the run and the header of the block. -/
theorem elementMeaning_keeps {w : ElementWord} (hbh : w.format ≠ .bh) (hop : w.format ≠ .op) :
    Keeps State.ofRun (elementMeaning w) := by
  obtain ⟨format, k⟩ := w
  cases format with
  | bh => exact absurd rfl hbh
  | op => exact absurd rfl hop
  | st => exact .bind storedBody_keeps fun _ => .update fun _ => rfl
  | dh =>
    show Keeps State.ofRun (fieldMeaning k)
    unfold fieldMeaning
    split
    · exact .bind (readCount_keeps 5 fun _ _ => rfl) fun _ => .update fun _ => rfl
    · exact .bind (readCount_keeps 5 fun _ _ => rfl) fun _ => .update fun _ => rfl
    · exact .bind (readCount_keeps 4 fun _ _ => rfl) fun _ => .update fun _ => rfl
    · exact fun _ _ _ h => by cases h
  | cll => exact .bind readClcl_keeps fun _ => .update fun _ => rfl
  | cl => exact .ite (codeLengthSymbol_keeps k) fun _ _ _ h => by cases h
  | ll => exact literalLengthMeaning_keeps k
  | d => exact thenCopy_distanceCode_keeps k

/-- Inside a block no header and no operation is fetched. -/
theorem format_of_fetchElement {w : ElementWord} (h : fetchElement s = .ok w t) :
    w.format ≠ .bh ∧ w.format ≠ .op := by
  cases hp : s.phase
  case codeLengths =>
    rw [format_of_read ((fetchElement_codeLengths hp).symm.trans h)]
    decide
  case expand =>
    rw [format_of_read ((fetchElement_expand hp).symm.trans h)]
    decide
  case distance =>
    rw [format_of_read ((fetchElement_distance hp).symm.trans h)]
    decide
  all_goals
    simp only [fetchElement, M.get_bind, hp, M.pure_apply, M.refuse_apply] at h
    cases h
  all_goals decide

theorem fetchElement_keeps : Keeps State.ofRun fetchElement := by
  refine .bind .reads fun s => ?_
  have hcode {m : M Nat} {g : Nat → State → State} {f : Format} (hm : Keeps State.ofRun m)
      (hg : ∀ v s, (g v s).ofRun = s.ofRun) :
      Keeps State.ofRun (m >>= fun v => (modify (g v) : M PUnit) >>= fun _ => pure (⟨f, v⟩ : ElementWord)) :=
    .bind hm fun v => .bind (.update (hg v)) fun _ => .returns _
  cases s.phase with
  | codeLengths => exact hcode (htDecode_keeps State.ofRun_cur .clt) fun _ _ => rfl
  | expand => exact hcode (htDecode_keeps State.ofRun_cur .llt) fun _ _ => rfl
  | distance => exact hcode (distFetch_keeps State.ofRun_cur) fun _ _ => rfl
  | idle | buildClt | returned => exact fun _ _ _ h => by cases h
  | storedBody | hlit | hdist | hclen | clcl => exact .returns _

/-- The statements between two elements leave the block at its end (R265), and go on in it everywhere else. -/
theorem of_settle_ok (hs : s.Busy) (h : settle s = .ok () t) :
    t = s.leaveBlock ∨ (t.fsm = .dispatching ∧ t.ofRun = s.ofRun) := by
  cases hp : s.phase
  case returned =>
    cases (settle_returned hs.not_over hp).symm.trans h
    exact .inl rfl
  case buildClt =>
    obtain ⟨_, u, hbuild, hu⟩ := M.of_bind_ok ((settle_buildClt hs.not_over hp).symm.trans h)
    cases hu
    exact .inr ⟨(fsm_of_htBuild_ok hbuild).trans hs.fsm, htBuild_keeps .clt s () u hbuild⟩
  case codeLengths =>
    have hend := (settle_codeLengths hs.not_over hp).symm.trans h
    split_ifs at hend
    · cases hq : s.seqTable <;> rw [hq] at hend
      · cases hend
        exact .inr ⟨hs.fsm, rfl⟩
      · obtain ⟨_, u, hbuild, hu⟩ := M.of_bind_ok hend
        cases hu
        exact .inr ⟨(fsm_of_buildBlockTrees_ok hbuild).trans hs.fsm, buildBlockTrees_keeps s () u hbuild⟩
    · cases hend
      exact .inr ⟨hs.fsm, rfl⟩
  all_goals
    cases (settle_waiting (by simp [hp]) (by simp [hp]) (by simp [hp])).symm.trans h
    exact .inr ⟨hs.fsm, rfl⟩

/-! ### Into a block and out of it -/

/-- Where the piece ends well, it leaves an element to fetch with nothing to do before it (log 5). -/
def LeavesStanding (m : M Unit) : Prop := ∀ s t, m s = .ok () t → t.phase.standing = true

theorem LeadsTo.leavesStanding {m : M Unit} {p : Phase} (hm : LeadsTo m p) (hp : p.standing = true) :
    LeavesStanding m := fun s t h => (hm s t h).symm ▸ hp

/-- A header that has a decoder leaves one of its elements to fetch (R263). -/
theorem headerMeaning_leavesStanding (header : Nat) : LeavesStanding (headerMeaning header) := by
  unfold headerMeaning
  split
  · exact LeadsTo.leavesStanding (.update fun _ => rfl) rfl
  · exact LeadsTo.leavesStanding (.bind fun _ => .bind fun _ => .update fun _ => rfl) rfl
  · exact LeadsTo.leavesStanding (.update fun _ => rfl) rfl
  · exact fun _ _ h => by cases h
  · exact fun _ _ h => by cases h

/-- A header leads into its block (R262, R263). -/
theorem fsm_of_header (hs : s.Inv) (hf : s.fsm = .readingHeader) (h : element s = .ok () t) :
    t.fsm = .dispatching := by
  have horder := (element_meets (hs.inOrder (by simp [hf])) hs.portEmpty (by simp [State.over, hf])).ok () t h
  obtain ⟨header, u, -, hrest⟩ := M.of_bind_ok ((element_readingHeader hs.portEmpty hf).symm.trans h)
  obtain ⟨_, v, hmeaning, hsettle⟩ := M.of_bind_ok hrest
  have hstanding := headerMeaning_leavesStanding header u v hmeaning
  cases (settle_inPhase hstanding v).symm.trans hsettle
  exact not_not.mp fun hne => Phase.ne_idle_of_standing hstanding (horder.running.phaseByFsm.mpr hne)

/-- An element of a block, and what its step makes of the end of the block (R265). -/
theorem of_block_element_ok (hs : s.Inv) (hf : s.fsm = .dispatching) (h : element s = .ok () t) :
    ∃ u : State, u.ofRun = s.ofRun ∧ (t = u.leaveBlock ∨ (t.fsm = .dispatching ∧ t.ofRun = u.ofRun)) := by
  have horder := hs.inOrder (by simp [hf])
  obtain ⟨w, v, hfetch, hrest⟩ := M.of_bind_ok h
  obtain ⟨_, u, hmeaning, hsettle⟩ := M.of_bind_ok hrest
  rw [fetch_dispatching hs.portEmpty hf] at hfetch
  obtain ⟨hbh, hop⟩ := format_of_fetchElement hfetch
  have hbusy := ((dispatching_meets horder hf).ok w v hfetch).ok () u hmeaning
  exact ⟨u, (elementMeaning_keeps hbh hop v () u hmeaning).trans (fetchElement_keeps s w v hfetch),
    of_settle_ok hbusy hsettle⟩

/-- Settles O52: the transitions out of each state of `FSM`. -/
theorem fsmMovesAsTheTableSays : Obligations.FsmMovesAsTheTableSays := by
  intro s t hs h
  cases hover : s.over with
  | true =>
    cases (step_over hs.portEmpty hover).symm.trans h
    obtain hf | hf := (State.over_iff s).mp hover <;> simp [hf]
  | false =>
    rw [step_eq_perform hs.portEmpty] at h
    have hend := fault_or_ok_of_perform h
    cases hf : s.fsm with
    | readingHeader =>
      obtain hfault | hok := hend
      · simp [hfault]
      · simp [fsm_of_header hs hf hok]
    | dispatching =>
      obtain hfault | hok := hend
      · simp [hfault]
      · obtain ⟨u, hkept, hleft⟩ := of_block_element_ok hs hf hok
        simp only [State.ofRun, Prod.mk.injEq] at hkept hleft
        obtain ⟨-, -, -, -, hbfinal, hbtype⟩ := hkept
        obtain rfl | ⟨hft, -, -, -, -, hbfinal', hbtype'⟩ := hleft
        · cases hb : u.bfinal <;> simp [← hbfinal, ← hbtype, hb]
        · simp [hft, hbfinal', hbtype', hbfinal, hbtype]
    | done | fault => simp [State.over, hf] at hover

end Sys2Proof.Machine
end

section
/-! PROOF. Symbols outside their alphabet: a fetched literal/length value of 286 or more, or distance code of 30 or
more, is a step that raises InvalidSymbol, whether the table has a row for it or not (60_exceptions.md R285). -/

namespace Sys2Proof.Machine

variable {s t u : State}

/-- A step raises what the meaning of the fetched word raises; the statements after it do not run (R292). -/
theorem step_raises_of_meaning {w : ElementWord} {m : M Unit} {c : Cause} (hf : fetch s = .ok w t)
    (hw : runWord w t = perform (m >>= fun _ => settle) t) (hm : m t = .error (.raise c) u) : Raises (step s) c := by
  rw [step_of_fetch hf, hw]
  exact perform_raises (M.bind_of_error _ hm)

/-- The last branch of R220 (45_lz77.md R226). -/
theorem literalLengthMeaning_invalid {k : Nat} (h : 286 ≤ k) : literalLengthMeaning k = invalidSymbol := by
  rw [literalLengthMeaning, if_neg (by omega), if_neg (by omega), if_neg (by omega)]

/-- From 30 on a distance code raises before the window check (45_lz77.md R231, R237). -/
theorem thenCopy_distanceCode_invalid {k : Nat} (h : 30 ≤ k) (s : State) :
    thenCopy (distanceCode k) s = .error (.raise .invalidSymbol) s := by
  rw [distanceCode_invalid h]
  exact M.bind_of_error _ (M.raise_apply _ s)

/-- Settles O8: either word has the meaning of its number, in the table or beyond it, and that meaning raises. -/
theorem symbolsOutsideTheirAlphabetFault : Obligations.SymbolsOutsideTheirAlphabetFault := by
  intro s t n
  constructor
  · intro hn hf
    have hm : literalLengthMeaning n t = .error (.raise .invalidSymbol) t := by
      rw [literalLengthMeaning_invalid hn]
      exact M.raise_apply _ t
    exact step_raises_of_meaning hf (runWord_literalLength n t) hm
  · intro hn hf
    exact step_raises_of_meaning hf (runWord_distance n t) (thenCopy_distanceCode_invalid hn t)

end Sys2Proof.Machine
end

section
/-! PROOF. The end of a run and the size of its output (70_reset_and_hazards.md R322, 46_decode_loop.md R268). A step
consumes at least one bit. A stored body appends no more bytes than it consumes bits, and any other element appends at
most the 258 bytes of the longest match; so until a fault `OUT` has at most 258 bytes per bit consumed. Before that, the
calls that no run makes (logs 11 and 12). -/

namespace Sys2Proof.Machine

variable {α β : Type} {s t : State}

/-! ### Calls without a meaning -/

theorem htDecode_noTree {q : TreeSel} (h : s.tree q = .none) : htDecode q s = .error (.refuse .noTree) s := by
  rw [htDecode, M.get_bind, h, Tree.descend, M.refuse_apply]

/-- The first byte of a copy from outside the window is refused already. -/
theorem copyBytes_outside {n : Nat} (hn : 1 ≤ n) (h : s.distance = 0 ∨ s.outLen < s.distance) :
    copyBytes n s = .error (.refuse .copyOutsideWindow) s := by
  obtain ⟨k, rfl⟩ := Nat.exists_eq_add_of_le' hn
  exact M.bind_of_error _ (copyByte_outside h)

/-- Settles O41: both calls are refused at their first read, of the tree and of the window. -/
theorem callsWithoutMeaningAreRefused : Obligations.CallsWithoutMeaningAreRefused := by
  refine fun s => ⟨fun q hq => ?_, fun hlength hwindow => ?_⟩
  · rw [exec_htDecode]
    exact perform_of_refuse (M.bind_of_error _ (htDecode_noTree hq))
  · rw [exec_copy]
    exact perform_of_refuse ((copyMatch_apply s).trans (copyBytes_outside hlength hwindow))

/-! ### A step consumes input -/

/-- Settles O54: a step that does not fault is an element that ends well, and every element consumes input. -/
theorem everyElementConsumesInput : Obligations.EveryElementConsumesInput :=
  fun _ _ hs hover h => step_consumes hs hover h

/-! ### Pieces that append nothing -/

theorem htBuild_keeps_outLen (q : TreeSel) : Keeps State.outLen (htBuild q) := by
  intro s _ t h
  cases hover : overSubscribed (countLengths (s.lengthsOf q)) with
  | true => cases (htBuild_over hover).symm.trans h
  | false =>
    cases (htBuild_ok hover).symm.trans h
    cases q <;> rfl

theorem fixedSetup_keeps_outLen : Keeps State.outLen fixedSetup :=
  .bind (.update fun _ => rfl) fun _ => .bind (htBuild_keeps_outLen .llt) fun _ => .update fun _ => rfl

theorem headerMeaning_keeps_outLen (header : Nat) : Keeps State.outLen (headerMeaning header) := by
  unfold headerMeaning
  split
  · exact .update fun _ => rfl
  · exact .bind (.update fun _ => rfl) fun _ => .bind fixedSetup_keeps_outLen fun _ => .update fun _ => rfl
  · exact .update fun _ => rfl
  · exact .bind (.update fun _ => rfl) fun _ => .raises _
  · exact fun _ _ _ h => by cases h

/-- A header count: a field is read into its register, and the next field is waited for. -/
theorem readThenWait_keeps_outLen {n : Nat} {g : Nat → State → State} {p : State → State}
    (hg : ∀ v s, (g v s).outLen = s.outLen) (hp : ∀ s, (p s).outLen = s.outLen) :
    Keeps State.outLen ((rbLsb n >>= fun v => modify (g v)) >>= fun _ => modify p : M PUnit) :=
  .bind (.bind (rbLsb_keeps (fun _ _ => rfl) n) fun v => .update (hg v)) fun _ => .update hp

theorem fieldMeaning_keeps_outLen (field : Nat) : Keeps State.outLen (fieldMeaning field) := by
  unfold fieldMeaning
  split
  · exact readThenWait_keeps_outLen (fun _ _ => rfl) fun _ => rfl
  · exact readThenWait_keeps_outLen (fun _ _ => rfl) fun _ => rfl
  · exact readThenWait_keeps_outLen (fun _ _ => rfl) fun _ => rfl
  · exact fun _ _ _ h => by cases h

theorem readClclEntries_keeps_outLen (places : List Nat) : Keeps State.outLen (readClclEntries places) := by
  induction places with
  | nil => exact .returns _
  | cons place places ih =>
    exact .bind (rbLsb_keeps (fun _ _ => rfl) 3) fun _ => .bind (.update fun _ => rfl) fun _ => ih

theorem readClcl_keeps_outLen : Keeps State.outLen readClcl :=
  .bind (.update fun _ => rfl) fun _ => .bind .reads fun _ => readClclEntries_keeps_outLen _

theorem codeLengthSymbol_keeps_outLen (sym : Nat) : Keeps State.outLen (codeLengthSymbol sym) := fun s _ t h => by
  rw [(emitted_of_codeLengthSymbol h).frame]

theorem lengthSymbol_keeps_outLen (sym : Nat) : Keeps State.outLen (lengthSymbol sym) :=
  .ite (.update fun _ => rfl) <| .ite (.update fun _ => rfl) <|
    .bind (.update fun _ => rfl) fun _ => .bind (rbLsb_keeps (fun _ _ => rfl) _) fun _ => .update fun _ => rfl

theorem endSequence_keeps_outLen (q : SeqTable) : Keeps State.outLen (endSequence q) := by
  cases q with
  | ll => exact .update fun _ => rfl
  | d =>
    exact .bind (.bind (htBuild_keeps_outLen .llt) fun _ => .bind (htBuild_keeps_outLen .dt) fun _ =>
      .update fun _ => rfl) fun _ => .update fun _ => rfl

/-- What is kept where one piece runs as another does that keeps it. -/
theorem keeps_of_eq {γ : Type} {f : State → γ} {m n : M α} {a : α} (h : m s = n s) (hn : Keeps f n)
    (ht : m s = .ok a t) : f t = f s :=
  hn s a t (h.symm.trans ht)

/-- The statements between two elements append nothing. -/
theorem settle_keeps_outLen : Keeps State.outLen settle := by
  intro s ⟨⟩ t h
  cases hover : s.over with
  | true =>
    cases (settle_over hover).symm.trans h
    rfl
  | false =>
    cases hp : s.phase
    case buildClt =>
      exact keeps_of_eq (settle_buildClt hover hp) (.bind (htBuild_keeps_outLen .clt) fun _ => .update fun _ => rfl) h
    case codeLengths =>
      exact keeps_of_eq (settle_codeLengths hover hp) (.ite (endSequence_keeps_outLen _) (.returns _)) h
    case returned =>
      cases (settle_returned hover hp).symm.trans h
      rfl
    all_goals
      cases (settle_waiting (by simp [hp]) (by simp [hp]) (by simp [hp])).symm.trans h
      rfl

/-! ### What a match appends -/

/-- `OUT_LEN` and `LENGTH`: what there is, and what the match that waits for its distance adds (45_lz77.md R220). -/
def State.matchEnd (s : State) : Nat × Nat := (s.outLen, s.length)

theorem distanceCode_keeps_matchEnd (code : Nat) : Keeps State.matchEnd (distanceCode code) :=
  .ite (.raises _) <| .ite (.update fun _ => rfl) <|
    .bind (.update fun _ => rfl) fun _ => .bind (rbLsb_keeps (fun _ _ => rfl) _) fun _ => .update fun _ => rfl

/-- A fetch decodes a word and appends nothing. -/
theorem fetchElement_keeps_matchEnd : Keeps State.matchEnd fetchElement := by
  refine .bind .reads fun s => ?_
  cases s.phase with
  | codeLengths =>
    exact .bind (htDecode_keeps (fun _ _ => rfl) .clt) fun _ => .bind (.update fun _ => rfl) fun _ => .returns _
  | expand =>
    exact .bind (htDecode_keeps (fun _ _ => rfl) .llt) fun _ => .bind (.update fun _ => rfl) fun _ => .returns _
  | distance =>
    exact .bind (distFetch_keeps fun _ _ => rfl) fun _ => .bind (.update fun _ => rfl) fun _ => .returns _
  | idle | buildClt | returned => exact fun _ _ _ h => by cases h
  | storedBody | hlit | hdist | hclen | clcl => exact .returns _

theorem windowCheck_keeps_matchEnd : Keeps State.matchEnd windowCheck :=
  .bind .reads fun _ => .ite (.returns _) (.raises _)

/-- COPY appends a byte per round (45_lz77.md R234). -/
theorem outLen_of_copyBytes_ok {n : Nat} (h : copyBytes n s = .ok () t) : t.outLen = s.outLen + n := by
  cases n with
  | zero =>
    cases h
    rfl
  | succ n =>
    by_cases hw : 1 ≤ s.distance ∧ s.distance ≤ s.outLen
    · obtain ⟨out, hrun, -⟩ := copyBytes_ok (n + 1) hw.1 hw.2
      cases hrun.symm.trans h
      rfl
    · cases (copyBytes_outside (Nat.le_add_left 1 n) (by omega)).symm.trans h

/-- A distance code appends the `LENGTH` bytes of its match (45_lz77.md R234, R237). -/
theorem outLen_of_thenCopy_ok {code : Nat} (h : thenCopy (distanceCode code) s = .ok () t) :
    t.outLen = s.outLen + s.length := by
  obtain ⟨_, u, hdistance, hrest⟩ := M.of_bind_ok h
  obtain ⟨_, v, hcheck, hrest⟩ := M.of_bind_ok hrest
  obtain ⟨_, w, hcopy, hphase⟩ := M.of_bind_ok hrest
  cases hphase
  have hkept : v.matchEnd = s.matchEnd :=
    (windowCheck_keeps_matchEnd u () v hcheck).trans (distanceCode_keeps_matchEnd code s () u hdistance)
  obtain ⟨hout, hlength⟩ := Prod.ext_iff.mp hkept
  exact (outLen_of_copyBytes_ok hcopy).trans (congrArg₂ (· + ·) hout hlength)

/-- Any literal/length symbol appends at most the byte of a literal (45_lz77.md R220, R221). -/
theorem outLen_of_literalLengthMeaning_ok {sym : Nat} (h : literalLengthMeaning sym s = .ok () t) :
    t.outLen ≤ s.outLen + 1 := by
  unfold literalLengthMeaning at h
  split at h
  · cases h
    exact le_rfl
  · have hkeeps : Keeps State.outLen (if sym = 256 then modify fun s => { s with phase := .returned }
        else if sym ≤ 285 then thenDistance (lengthSymbol sym) else invalidSymbol : M Unit) :=
      .ite (.update fun _ => rfl) <|
        .ite (.bind (lengthSymbol_keeps_outLen sym) fun _ => .update fun _ => rfl) (.raises _)
    exact (hkeeps s () t h).le.trans (Nat.le_succ _)

/-! ### What a stored body appends -/

/-- Where the piece ends well, it has appended no more bytes than it has consumed bits. -/
def BytePerBit (m : M α) : Prop := ∀ s a t, m s = .ok a t → t.outLen + s.cur ≤ s.outLen + t.cur

theorem BytePerBit.bind {m : M α} {f : α → M β} (hm : BytePerBit m) (hf : ∀ a, BytePerBit (f a)) :
    BytePerBit (m >>= f) := by
  intro s b u h
  obtain ⟨a, t, ha, hb⟩ := M.of_bind_ok h
  have hfirst := hm s a t ha
  have hsecond := hf a t b u hb
  omega

theorem Keeps.bytePerBit {m : M α} (hm : Keeps State.outLen m) (hg : Grows m) : BytePerBit m := fun s a t h => by
  rw [hm s a t h]
  exact Nat.add_le_add_left (hg.cur_le h) _

/-- A byte that is read is eight bits, and each is appended once (42_stored.md R170). -/
theorem rbBytes_appendAll_bytePerBit (n : Nat) :
    BytePerBit (rbBytes n >>= fun data => modify fun s => s.appendAll data : M PUnit) := by
  intro s _ u h
  obtain ⟨data, t, hdata, hu⟩ := M.of_bind_ok h
  by_cases ha : s.cur % 8 = 0
  · by_cases hn : s.cur / 8 + n ≤ s.inLen
    · cases (rbBytes_ok ha hn).symm.trans hdata
      rw [M.modify_apply, State.appendAll_frame, Memory.bytes_length] at hu
      cases hu
      show s.outLen + n + s.cur ≤ s.outLen + (s.cur + 8 * n)
      omega
    · cases (rbBytes_short ha (Nat.lt_of_not_le hn)).symm.trans hdata
  · cases (rbBytes_unaligned ha).symm.trans hdata

theorem rbAlign_bytePerBit : BytePerBit rbAlign := fun s _ t h => by
  have hcur := rbAlign_grows.cur_le h
  cases (rbAlign_ok s).symm.trans h
  exact Nat.add_le_add_left hcur _

theorem rbLsb_bytePerBit (n : Nat) : BytePerBit (rbLsb n) :=
  (rbLsb_keeps (fun _ _ => rfl) n).bytePerBit (rbLsb_grows n)

theorem BytePerBit.update {g : State → State} (hout : ∀ s, (g s).outLen = s.outLen)
    (hcur : ∀ s, (g s).cur = s.cur) : BytePerBit (modify g : M PUnit) := fun s _ t h => by
  cases h
  exact (congrArg₂ (· + ·) (hout s) (hcur s).symm).le

theorem storedBody_bytePerBit : BytePerBit storedBody :=
  .bind rbAlign_bytePerBit fun _ =>
    .bind (rbLsb_bytePerBit 16) fun _ => .bind (.update (fun _ => rfl) fun _ => rfl) fun _ =>
    .bind (rbLsb_bytePerBit 16) fun _ => .bind (.update (fun _ => rfl) fun _ => rfl) fun _ =>
    .bind (Keeps.reads.bytePerBit .reads) fun s => by
      cases s.storedCheck with
      | true => exact rbBytes_appendAll_bytePerBit _
      | false => exact (Keeps.raises _).bytePerBit (.raises _)

/-! ### What an element appends -/

/-- Only a place that waits for a distance fetches a distance code (45_lz77.md R228). -/
theorem phase_of_fetchElement_distance {w : ElementWord} (h : fetchElement s = .ok w t) (hw : w.format = .d) :
    s.phase = .distance := by
  cases hp : s.phase
  case distance => rfl
  case codeLengths => cases (format_of_read ((fetchElement_codeLengths hp).symm.trans h)).symm.trans hw
  case expand => cases (format_of_read ((fetchElement_expand hp).symm.trans h)).symm.trans hw
  all_goals
    simp only [fetchElement, M.get_bind, hp, M.pure_apply, M.refuse_apply] at h
    cases h
  all_goals cases hw

/-- An element appends a byte per bit (a stored body), or at most the bytes of one match. -/
theorem outLen_of_elementMeaning_ok {w : ElementWord} (hmatch : w.format = .d → s.length ≤ 258)
    (h : elementMeaning w s = .ok () t) : t.outLen + s.cur ≤ s.outLen + t.cur ∨ t.outLen ≤ s.outLen + 258 := by
  have hkeeps (hm : Keeps State.outLen (elementMeaning w)) : t.outLen ≤ s.outLen + 258 :=
    (hm s () t h).le.trans (Nat.le_add_right _ _)
  obtain ⟨format, k⟩ := w
  cases format with
  | st =>
    have hbody : BytePerBit (elementMeaning ⟨.st, k⟩) :=
      .bind storedBody_bytePerBit fun _ => .update (fun _ => rfl) fun _ => rfl
    exact .inl (hbody s () t h)
  | bh => exact .inr (hkeeps (headerMeaning_keeps_outLen k))
  | dh => exact .inr (hkeeps (fieldMeaning_keeps_outLen k))
  | cll => exact .inr (hkeeps (.bind readClcl_keeps_outLen fun _ => .update fun _ => rfl))
  | cl => exact .inr (hkeeps (.ite (codeLengthSymbol_keeps_outLen k) fun _ _ _ h => by cases h))
  | ll => exact .inr ((outLen_of_literalLengthMeaning_ok h).trans (by omega))
  | d => exact .inr ((outLen_of_thenCopy_ok h).le.trans (Nat.add_le_add_left (hmatch rfl) _))
  | op => exact .inr (hkeeps (.update fun _ => rfl))

/-- A fetch appends nothing, and where it answers a distance code the match has its length (45_lz77.md R220). -/
theorem of_fetch_ok {w : ElementWord} (hs : s.Inv) (hover : s.over = false) (h : fetch s = .ok w t) :
    t.outLen = s.outLen ∧ (w.format = .d → t.length ≤ 258) := by
  have horder := hs.inOrder_of_not_over hover
  cases hf : s.fsm with
  | readingHeader =>
    obtain ⟨header, u, hheader, hword⟩ := M.of_bind_ok ((fetch_readingHeader hs.portEmpty hf).symm.trans h)
    cases hword
    rw [of_readHeader_ok hheader]
    exact ⟨rfl, nofun⟩
  | dispatching =>
    rw [fetch_dispatching hs.portEmpty hf] at h
    obtain ⟨hout, hlength⟩ := Prod.ext_iff.mp (fetchElement_keeps_matchEnd s w t h)
    exact ⟨hout, fun hw => hlength.trans_le (horder.running.matchLength (phase_of_fetchElement_distance h hw)).2⟩
  | done | fault => exact absurd hover (by simp [State.over, hf])

/-- An element appends at most 258 bytes per bit it consumes. -/
theorem outLen_of_element_ok (hs : s.Inv) (hover : s.over = false) (h : element s = .ok () t) :
    t.outLen + 258 * s.cur ≤ s.outLen + 258 * t.cur := by
  have hconsumed := element_consumesAt hs hover () t h
  obtain ⟨w, u, hfetch, hrest⟩ := M.of_bind_ok h
  obtain ⟨_, v, hmeaning, hsettle⟩ := M.of_bind_ok hrest
  obtain ⟨hfetched, hmatch⟩ := of_fetch_ok hs hover hfetch
  have hfetchedCur : s.cur ≤ u.cur := by
    have hgrows := fetch_growsTo hs.portEmpty
    rw [endState_of_ok hfetch] at hgrows
    exact hgrows.cur
  have hsettled := settle_keeps_outLen v () t hsettle
  have hsettledCur := settle_grows.cur_le hsettle
  obtain hstored | hother := outLen_of_elementMeaning_ok hmatch hmeaning <;> omega

/-! ### The size of the output -/

/-- In order, on an input of `n` bytes, with at most 258 bytes of `OUT` per bit consumed until a fault. -/
structure State.OutputBounded (s : State) (n : Nat) : Prop where
  inv : s.Inv
  inLen : s.inLen = n
  output : s.fsm ≠ .fault → s.outLen ≤ 258 * s.cur

theorem State.launch_outputBounded (s : State) (bytes : List Byte) : (s.launch bytes).OutputBounded bytes.length :=
  ⟨s.launch_inv bytes, rfl, fun _ => Nat.zero_le _⟩

/-- A step keeps the bound: a finished run appends nothing, and an element appends what its bits allow. -/
theorem State.OutputBounded.of_step {n : Nat} (hs : s.OutputBounded n) (h : step s = .next t) : t.OutputBounded n := by
  obtain ⟨_, hnext, hinv⟩ := everyStepKeepsTheRunInOrder s hs.inv
  cases hnext.symm.trans h
  refine ⟨hinv, (step_growsTo hs.inv.portEmpty h).inLen.trans hs.inLen, fun hf => ?_⟩
  cases hover : s.over with
  | true =>
    cases (step_over hs.inv.portEmpty hover).symm.trans h
    exact hs.output hf
  | false =>
    rw [step_eq_perform hs.inv.portEmpty] at h
    have hbytes := outLen_of_element_ok hs.inv hover (ok_of_perform_next h hf)
    have hbound := hs.output (hs.inv.inOrder_of_not_over hover).fsm
    omega

theorem State.OutputBounded.of_run {n k : Nat} (hs : s.OutputBounded n) (h : core.run k s = .next t) :
    t.OutputBounded n := by
  induction k generalizing s with
  | zero =>
    cases h
    exact hs
  | succ k ih =>
    obtain ⟨u, hnext, -⟩ := everyStepKeepsTheRunInOrder s hs.inv
    rw [run_succ_of_step hnext] at h
    exact ih (hs.of_step hnext) h

/-- In DONE the bound in bits consumed is one in bits of the input (10_state.md R22). -/
theorem State.OutputBounded.outLen_le {n : Nat} (hs : s.OutputBounded n) (hdone : s.fsm = .done) :
    s.outLen ≤ 258 * (8 * n) := by
  have hf : s.fsm ≠ .fault := by simp [hdone]
  have hcursor := (hs.inv.running hf).cursor
  rw [hs.inLen] at hcursor
  exact (hs.output hf).trans (Nat.mul_le_mul_left _ hcursor)

/-- Settles O55: the run ends because its steps consume input, and every step keeps the bound it starts with. -/
theorem everyRunEnds : Obligations.EveryRunEnds := by
  intro bytes s
  have hs := s.launch_outputBounded bytes
  obtain ⟨t, hrun, hover⟩ := run_ends (n := 8 * bytes.length + 1) hs.inv (Nat.lt_succ_self _)
  exact ⟨t, hrun, (State.over_iff t).mp hover, (hs.of_run hrun).outLen_le⟩

end Sys2Proof.Machine
end
